-- ==== Sys2Proof/Word.lean ====
section
/-! DEFINITION. The words of the machine, at the widths of spec/00_scope.md rule R18, and its two index spaces
(spec/10_state.md rule R33). -/

namespace Sys2Proof

/-- A binary32 word (R9): sign in bit 31, biased exponent in bits 30:23, fraction in bits 22:0. -/
abbrev F32 := BitVec 32

/-- A phase or a phase increment (R4, R18). -/
abbrev Phase := BitVec 16

/-- The input transaction word, format TW (R72). -/
abbrev TransactionWord := BitVec 34

/-- The micro-step number, format U (R77). -/
abbrev MicroLabel := BitVec 3

/-- The decision word, format DEC (R75). -/
abbrev DecWord := BitVec 10

/-- The event word, format EW (R76). -/
abbrev EventWord := BitVec 8

/-- A lane index `k = 0..9` (R33). -/
abbrev Lane := Fin 10

/-- A window slot `b = 0..3`, its age, 0 the newest (R23, R33). -/
abbrev Slot := Fin 4

/-- One value for each lane. -/
abbrev Lanes (α : Type) := Vector α 10

/-- The lanes in the ascending order in which the rules scan them (R151, R152). -/
def lanes : List Lane := [0, 1, 2, 3, 4, 5, 6, 7, 8, 9]

/-- The window slots in the order in which `AGGREGATE` adds them, newest first (R130). -/
def slots : List Slot := [0, 1, 2, 3]

/-- `+0` (R9). -/
abbrev posZero : F32 := 0x00000000#32

/-- `-0` (R9). -/
abbrev negZero : F32 := 0x80000000#32

/-- `+inf` (R9). -/
abbrev posInf : F32 := 0x7F800000#32

/-- `-inf` (R9). -/
abbrev negInf : F32 := 0xFF800000#32

end Sys2Proof
end

