-- ==== Sys2Proof/Syntax.lean ====
section
/-! DEFINITION. The operation set (spec/30_encoding.md rule R71): one constructor for each row of
spec/opcode_table.json. -/

namespace Sys2Proof

/-- The three host-selectable operations and the eight micro-operations of R71. -/
inductive Instr where
  /-- `INIT` (R186). -/
  | init
  /-- `SAMPLE x` (R120), `x` the binary32 word of the sample. -/
  | sample (x : F32)
  /-- `IDLE` (R182). -/
  | idle
  /-- U0 `REF` (R101). -/
  | ref
  /-- U1 `ACCUM` (R123). -/
  | accum
  /-- U2 `ADVANCE` (R106). -/
  | advance
  /-- U3 `COUNT` (R125). -/
  | count
  /-- U4 `CLOSE` (R127). -/
  | close
  /-- U5 `AGGREGATE` (R130). -/
  | aggregate
  /-- U6 `SELECT` (R150). -/
  | select
  /-- U7 `REPORT` (R170). -/
  | report
  deriving DecidableEq, Repr

/-- The two instruction formats of the opcode table. -/
inductive Format where
  /-- The input transaction word, 34 bits (R72). -/
  | tw
  /-- The micro-step label, 3 bits (R77). -/
  | u
  deriving DecidableEq, Repr

/-- How many bits an instruction of the format has. -/
def Format.width : Format → Nat
  | .tw => 34
  | .u => 3

/-- The format column of the opcode table. -/
def Instr.format : Instr → Format
  | .init => .tw
  | .sample _ => .tw
  | .idle => .tw
  | .ref => .u
  | .accum => .u
  | .advance => .u
  | .count => .u
  | .close => .u
  | .aggregate => .u
  | .select => .u
  | .report => .u

/-- "The host cannot select a micro-operation on its own" (R71): what the host can select. -/
def Instr.hostSelectable (i : Instr) : Bool := i.format == .tw

end Sys2Proof
end

