-- ==== Sys2Proof/WellFormed.lean ====
section
/-! DEFINITION. What must hold of a term before the machine gives it a meaning: of an instruction nothing
(spec/30_encoding.md rules R73, R79), of a raw word that it has no bit beyond its format, of a configuration the
constraints of spec/00_scope.md rules R6 and R7. -/

namespace Sys2Proof

/-- Every instruction is well formed: "No 34-bit word is illegal" (R73), every sample pattern is accepted (R74), and the
eight labels are all there are (R77). -/
def Instr.wellFormed : Instr → Bool
  | .init => true
  | .sample _ => true
  | .idle => true
  | .ref => true
  | .accum => true
  | .advance => true
  | .count => true
  | .close => true
  | .aggregate => true
  | .select => true
  | .report => true

/-- A raw word of a format has no bit set beyond the format's width (R72, R77). -/
def Format.fits (f : Format) (w : Nat) : Bool := decide (w < 2 ^ f.width)

/-- The constraint on `SAMPLE_RATE` (R6): `1 <= BLOCKLEN <= 65535`. -/
def legalRate (rate : Nat) : Bool := decide (100 ≤ rate ∧ rate ≤ 6553599)

/-- The constraint on `INC[k]` (R7): `0 <= INC[k] <= 65535`. -/
def legalInc (inc : Nat) : Bool := decide (inc ≤ 65535)

end Sys2Proof
end

