-- ==== Sys2Proof/Config.lean ====
section
/-! DEFINITION. The configuration constants of an instance (spec/00_scope.md rules R4 to R8, spec/10_state.md rule R27)
and the free values: constants with no body, of which nothing can be proved but that they exist. -/

namespace Sys2Proof

/-- A legal `SAMPLE_RATE` (R5, R6): for any other integer "no instance exists", so the type has no such value. -/
abbrev Rate := { n : Nat // 100 ≤ n ∧ n ≤ 6553599 }

/-- A target frequency `FREQ[k]` in Hz (R7), the rational `num / den`. -/
structure Freq where
  num : Nat
  den : Nat
  deriving DecidableEq, Repr

/-- The configuration of one instance: fixed when the instance is made, read-only for its life (R27, R63). -/
structure Cfg where
  /-- `SAMPLE_RATE` (R5). -/
  rate : Rate
  /-- `INC[0..9]` (R7). -/
  inc : Lanes Phase
  /-- Whether the instance has the optional diagnostic record (R191; "Open parameters" of 92_eei_decisions.md). -/
  diag : Bool
  deriving DecidableEq, Repr

/-- The ten phase increments of the protocol. OPEN in the spec (R7, decision D6): no source gives the frequencies, so the
constant is free and no statement may rest on a value of it (log 2, DESIGN CHOICE). -/
opaque Config.protocolInc : Lanes Phase

/-- The reference configuration: 22050 samples a second (R5), increments open (R7), no diagnostic record (the default of
"Open parameters" in 92_eei_decisions.md). -/
def Config.reference : Cfg := ⟨⟨22050, by decide⟩, Config.protocolInc, false⟩

/-- What the n-th phase register holds at power-on: unspecified (R35), free (log 12, DESIGN CHOICE). -/
opaque Config.powerOnPhase : Nat → Phase

/-- What the n-th binary32 element holds at power-on: unspecified (R35), free (log 12, DESIGN CHOICE). -/
opaque Config.powerOnF32 : Nat → F32

/-- What the countdown holds at power-on: unspecified (R35), free (log 12, DESIGN CHOICE). -/
opaque Config.powerOnCnt : BitVec 16

/-- What `last` holds at power-on: unspecified (R35), free (log 12, DESIGN CHOICE). -/
opaque Config.powerOnLast : DecWord

end Sys2Proof
end

