-- ==== Sys2Proof/Machine/Binary32.lean ====
section
/-! DEFINITION. The datapath number system: binary32 (spec/00_scope.md rules R9 to R14). Every finite value is a whole
number of units of `2^-149`, so sums and products are computed exactly over the integers and rounded once. -/

namespace Sys2Proof.Machine

/-- `w[31]` (R9). -/
def f32Sign (w : F32) : Bool := w.getLsbD 31

/-- `w[30:23]`, the biased exponent (R9). -/
def f32Exp (w : F32) : Nat := (w.extractLsb' 23 8).toNat

/-- `w[22:0]`, the fraction (R9). -/
def f32Frac (w : F32) : Nat := (w.extractLsb' 0 23).toNat

/-- Exponent 255 with fraction not 0 (R9). -/
def isNaN (w : F32) : Bool := f32Exp w == 255 && f32Frac w != 0

/-- Exponent 255 with fraction 0 (R9). -/
def isInf (w : F32) : Bool := f32Exp w == 255 && f32Frac w == 0

/-- Exponent 0 with fraction 0: `+0` or `-0` (R9). -/
def isZero (w : F32) : Bool := f32Exp w == 0 && f32Frac w == 0

/-- A zero, a subnormal or a normal value: exponent not 255 (R9). -/
def isFinite (w : F32) : Bool := f32Exp w != 255

/-- The one NaN the machine produces: "a model may represent every NaN by one value" (R14, log 5, DESIGN CHOICE). -/
def someNaN : F32 := 0x7FC00000#32

/-- The magnitude of a finite value in units of `2^-149` (R9): `f` for a subnormal, `(2^23 + f) * 2^(e-1)` for a normal
value, since `2^(e-150) = 2^(e-1) * 2^-149`. For an infinity it is `2^277`, above every finite magnitude. -/
def f32Mag (w : F32) : Nat :=
  if f32Exp w = 0 then f32Frac w else (2 ^ 23 + f32Frac w) * 2 ^ (f32Exp w - 1)

/-- The value of a finite word in units of `2^-149` (R9), and `2^277` or `-2^277` for an infinity. -/
def f32Val (w : F32) : Int := if f32Sign w then -(f32Mag w : Int) else (f32Mag w : Int)

/-- How far above `2^-149` the last place of the rounding of `n * 2^(-149-k)` lies: 24 significant bits, but no place
below `2^-149` (gradual underflow, R10). -/
def roundPlace (n k : Nat) : Nat := Nat.log2 n - (k + 23)

/-- `n / d` rounded to the nearest integer, a tie to the even one (R10). -/
def divNearestEven (n d : Nat) : Nat :=
  if d < 2 * (n % d) ∨ (d = 2 * (n % d) ∧ n / d % 2 = 1) then n / d + 1 else n / d

/-- `rnd32` (R10) of the magnitude `n * 2^(-149-k)`. With `q` the place and `m <= 2^24` the rounded significand, the
value is `m * 2^q` units of `2^-149` and its word is `q * 2^23 + m` (the hidden bit of `m` adds 1 to the exponent field,
a carry to `2^24` adds 2); from exponent 255 on it is the infinity. -/
def roundMag (n k : Nat) : F32 :=
  BitVec.ofNat 32
    (min (roundPlace n k * 2 ^ 23 + divNearestEven n (2 ^ (k + roundPlace n k))) (255 * 2 ^ 23))

/-- The word with the sign bit set as given. -/
def withSign (neg : Bool) (w : F32) : F32 := if neg then w ||| negZero else w

/-- `rnd32` (R10) of the real number `± n * 2^(-149-k)`. -/
def rnd32 (neg : Bool) (n k : Nat) : F32 := withSign neg (roundMag n k)

/-- `fadd(a, b)` (R11). -/
def fadd (a b : F32) : F32 :=
  if isNaN a || isNaN b then someNaN
  else if isInf a && isInf b then (if f32Sign a == f32Sign b then a else someNaN)
  else if isInf a then a
  else if isInf b then b
  else if f32Val a + f32Val b = 0 then (if f32Sign a && f32Sign b then negZero else posZero)
  else rnd32 (decide (f32Val a + f32Val b < 0)) (f32Val a + f32Val b).natAbs 0

/-- `fmul(a, b)` (R12): the exact product of two magnitudes is in units of `2^-298`. -/
def fmul (a b : F32) : F32 :=
  if isNaN a || isNaN b then someNaN
  else if (isZero a && isInf b) || (isInf a && isZero b) then someNaN
  else if isInf a || isInf b then withSign (f32Sign a != f32Sign b) posInf
  else rnd32 (f32Sign a != f32Sign b) (f32Mag a * f32Mag b) 149

/-- `fgt(a, b)` (R13): "a is greater than b", false if either is a NaN. -/
def fgt (a b : F32) : Bool := !isNaN a && !isNaN b && decide (f32Val b < f32Val a)

end Sys2Proof.Machine
end

