-- ==== Sys2Proof/Machine/Params.lean ====
section
/-! DEFINITION. The parameters computed from the configuration (spec/00_scope.md rules R6 to R8) and the making of a
configuration, which refuses an illegal one. -/

namespace Sys2Proof.Machine

/-- `BLOCKLEN = floor(SAMPLE_RATE / 100)` (R6). -/
def blockLen (c : Cfg) : Nat := c.rate.val / 100

/-- `BLOCKLEN` as the countdown holds it (R24). -/
def blockLenWord (c : Cfg) : BitVec 16 := BitVec.ofNat 16 (blockLen c)

/-- `C_SCALE = rnd32(BLOCKNUM * BLOCKLEN * 0.5)` (R8): `4 * BLOCKLEN * 2^148` units of `2^-149`. -/
def cScale (c : Cfg) : F32 := rnd32 false (4 * blockLen c * 2 ^ 148) 0

/-- `C_FLOOR` (R8). -/
def cFloor : F32 := 0x3DCCCCCD#32

/-- `C_SIG` (R8). -/
def cSig : F32 := 0x3ECCCCCD#32

/-- `INC = floor(FREQ * 65536 / SAMPLE_RATE)`, over the rationals and then floored (R7). -/
def incOf (rate : Nat) (f : Freq) : Nat := f.num * 65536 / (f.den * rate)

/-- Why no instance exists for a configuration (R6, R7, R19). -/
inductive ConfigReject where
  /-- `SAMPLE_RATE` outside 100..6553599 (R6). -/
  | sampleRate
  /-- `INC[k]` above 65535 for some lane (R7), or a frequency that is no rational (denominator 0). -/
  | frequency
  deriving DecidableEq, Repr

/-- Making the configuration of an instance from `SAMPLE_RATE` and `FREQ[0..9]` (R5 to R7, R233); "a configuration
outside it is refused (no instance exists)". -/
def configure (rate : Nat) (freq : Lanes Freq) (diag : Bool) : Except ConfigReject Cfg :=
  if h : 100 ≤ rate ∧ rate ≤ 6553599 then
    if lanes.all (fun k => decide (freq[k].den ≠ 0) && legalInc (incOf rate freq[k])) then
      .ok ⟨⟨rate, h⟩, Vector.ofFn fun k => BitVec.ofNat 16 (incOf rate freq[k]), diag⟩
    else .error .frequency
  else .error .sampleRate

end Sys2Proof.Machine
end

