-- ==== Sys2Proof/Machine/State.lean ====
section
/-! DEFINITION. The state of one instance (spec/10_state.md), as plain data. -/

namespace Sys2Proof.Machine

/-- A block record `(e, i[0..9], q[0..9])` (R20, R22): total energy, in-phase sums, quadrature sums. -/
structure Block where
  e : F32
  i : Lanes F32
  q : Lanes F32
  deriving DecidableEq, Repr

/-- The zero block record: `e = +0`, `i[0..9] = +0`, `q[0..9] = +0` (R186). -/
def Block.zero : Block := ⟨posZero, Vector.replicate 10 posZero, Vector.replicate 10 posZero⟩

/-- The reason of a decision (R84), named as there. -/
inductive Reason where
  | pair
  | noPrimary
  | noSecondary
  | thirdPeak
  | signalFloor
  deriving DecidableEq, Repr

/-- The values that live inside one operation (R31), "computed and consumed inside one `SAMPLE`" and not surviving it:
the operand, the references of `REF`, the results of `AGGREGATE` and of `SELECT`. The model's own field (log 9, DESIGN CHOICE). -/
structure Transients where
  /-- The operand of the running `SAMPLE` (R74). -/
  x : F32
  /-- `c[0..9]` (R101). -/
  c : Lanes F32
  /-- `s[0..9]` (R101). -/
  s : Lanes F32
  /-- `totE` (R130). -/
  totE : F32
  /-- `m[0..9]` (R130). -/
  m : Lanes F32
  /-- `dec` (R150). -/
  dec : DecWord
  /-- The reason beside `dec` (R150, R84). -/
  reason : Reason
  deriving DecidableEq, Repr

/-- No operation is running (log 9, DESIGN CHOICE). -/
def Transients.idle : Transients :=
  ⟨posZero, Vector.replicate 10 posZero, Vector.replicate 10 posZero, posZero, Vector.replicate 10 posZero, 0#10,
    .noPrimary⟩

/-- The diagnostic record DR (R84). A value is none where it "reads as some NaN" (R14, R213; log 6, DEDUCED). -/
structure DiagRecord where
  totE : Option F32
  m : Lanes (Option F32)
  dec : DecWord
  reason : Reason
  deriving DecidableEq, Repr

/-- The state of one instance: its configuration constants, the tuple of R20, its two output ports as the latest
operation left them, and the model's own fields `tr`, `input`, `micro`. -/
structure State where
  /-- The configuration of the instance (R27): no operation writes it (log 1, DESIGN CHOICE). -/
  cfg : Cfg
  /-- `ph[0..9]` (R21). -/
  ph : Lanes Phase
  /-- The open block (R22). -/
  acc : Block
  /-- The sliding window, slot 0 the newest (R23). -/
  win : Vector Block 4
  /-- The countdown (R24). -/
  cnt : BitVec 16
  /-- The decision word of the latest closure (R25). -/
  last : DecWord
  /-- Whether an `INIT` has run since power-on (R26). -/
  inited : Bool
  /-- The transients of the running operation (R31, log 9, DESIGN CHOICE). -/
  tr : Transients
  /-- The event port of the latest operation (R190, log 10, DESIGN CHOICE). -/
  evt : Option EventWord
  /-- The diagnostic port of the latest operation (R191, log 11, DESIGN CHOICE). -/
  dr : Option DiagRecord
  /-- The input words the host has still to present, in order (R17, log 7, DESIGN CHOICE). -/
  input : List TransactionWord
  /-- A micro-step selected to run by itself (log 8, DESIGN CHOICE); none in every run of the host's (R71). -/
  micro : Option MicroLabel
  deriving DecidableEq, Repr

/-- Why the machine stops with a fault: never. "The set of exception causes is empty" (R200), so there is no constructor. -/
inductive Fault
  deriving DecidableEq, Repr

/-- Why an operation is given no meaning (R19). -/
inductive Refusal where
  /-- Raised by an arm of exec for an instruction that has no meaning yet; safe. No arm raises it. -/
  | notModelled (mnemonic : String)
  /-- Raised by `SAMPLE` while `inited` is false (R231): the spec refuses it, "no claim may be made of it"; safe. -/
  | sampleBeforeInit
  deriving DecidableEq, Repr

/-- The machine right after reset, the operation `INIT` (R230): the table of R34, in the reference configuration; nothing
presented, no event. -/
def State.reset : State where
  cfg := Config.reference
  ph := Vector.replicate 10 0#16
  acc := Block.zero
  win := Vector.replicate 4 Block.zero
  cnt := blockLenWord Config.reference
  last := 0x000#10
  inited := true
  tr := Transients.idle
  evt := none
  dr := none
  input := []
  micro := none

/-- The n-th block record at power-on (R35): free values (log 12, DESIGN CHOICE). -/
def Block.powerOn (n : Nat) : Block :=
  ⟨Config.powerOnF32 (21 * n), Vector.ofFn fun k => Config.powerOnF32 (21 * n + 1 + k.val),
    Vector.ofFn fun k => Config.powerOnF32 (21 * n + 11 + k.val)⟩

/-- An instance at power-on (R35, R232): `inited` false, every other element of R20 a free value (log 12, DESIGN CHOICE). -/
def State.powerOn (c : Cfg) : State where
  cfg := c
  ph := Vector.ofFn fun k => Config.powerOnPhase k.val
  acc := Block.powerOn 0
  win := Vector.ofFn fun b => Block.powerOn (b.val + 1)
  cnt := Config.powerOnCnt
  last := Config.powerOnLast
  inited := false
  tr := Transients.idle
  evt := none
  dr := none
  input := []
  micro := none

end Sys2Proof.Machine
end

