-- ==== Sys2Proof/Machine/Ops.lean ====
section
/-! DEFINITION. The named operations on the state: one write for each field, the start and the end of an operation, the
event and diagnostic ports. There is no exception to take (spec/60_exceptions.md rule R200) and no memory
(spec/20_memory.md rule R50); the machine's only signal is the event (R203). -/

namespace Sys2Proof.Machine

/-- Writes `ph[0..9]` together (R18). -/
def State.setPh (s : State) (v : Lanes Phase) : State := { s with ph := v }

/-- Writes the open block (R22). -/
def State.setAcc (s : State) (v : Block) : State := { s with acc := v }

/-- Writes the window (R23). -/
def State.setWin (s : State) (v : Vector Block 4) : State := { s with win := v }

/-- Writes the countdown (R24). -/
def State.setCnt (s : State) (v : BitVec 16) : State := { s with cnt := v }

/-- Writes `last` (R25). -/
def State.setLast (s : State) (v : DecWord) : State := { s with last := v }

/-- Writes `inited` (R26). -/
def State.setInited (s : State) (v : Bool) : State := { s with inited := v }

/-- Writes the transients (R31, log 9, DESIGN CHOICE). -/
def State.setTr (s : State) (v : Transients) : State := { s with tr := v }

/-- Drives the event port (R190): `none` is `evt_valid = 0`. -/
def State.setEvt (s : State) (v : Option EventWord) : State := { s with evt := v }

/-- Drives the diagnostic port (R191): `none` is `diag_valid = 0`. -/
def State.setDr (s : State) (v : Option DiagRecord) : State := { s with dr := v }

/-- Writes the words the host has still to present (log 7, DESIGN CHOICE). -/
def State.setInput (s : State) (v : List TransactionWord) : State := { s with input := v }

/-- Selects a micro-step to run by itself, or none (log 8, DESIGN CHOICE). -/
def State.setMicro (s : State) (v : Option MicroLabel) : State := { s with micro := v }

/-- A host operation starts: both ports are idle and no transient of an earlier operation survives (R31, R190: an event is
presented once, as part of one operation). -/
def startOperation (s : State) : State := ((s.setTr Transients.idle).setEvt none).setDr none

/-- `SAMPLE` takes its operand (R74). -/
def loadOperand (x : F32) (s : State) : State := s.setTr { s.tr with x := x }

/-- The operation ends: its transients do not survive it (R31). -/
def endOperation (s : State) : State := s.setTr Transients.idle

/-- `COUNT` found zero: this `SAMPLE` is a closure (R125). -/
def closing (s : State) : Bool := s.cnt == 0#16

/-- A value on the diagnostic record: a NaN reads as "some NaN" (R14, R213; log 6, DEDUCED). -/
def diagValue (w : F32) : Option F32 := if isNaN w then none else some w

/-- The diagnostic record of a closure (R84): a pure copy of transients (R57). -/
def diagRecord (t : Transients) : DiagRecord :=
  ⟨diagValue t.totE, Vector.ofFn fun k => diagValue t.m[k], t.dec, t.reason⟩

/-- Where the instance has the record, it is presented at the closure (R191, log 11, DESIGN CHOICE). -/
def presentDiag (s : State) : State := if s.cfg.diag then s.setDr (some (diagRecord s.tr)) else s

end Sys2Proof.Machine
end

