-- ==== Sys2Proof/Machine/Accumulator.lean ====
section
/-! DEFINITION. The correlator and energy accumulator: `ACCUM`, `COUNT`, `CLOSE`, `AGGREGATE`
(spec/41_accumulator.md rules R123, R125, R127, R130). -/

namespace Sys2Proof.Machine

/-- One sum updated by one product, each rounded once (R123). -/
def accumulate (sum reference x : F32) : F32 := fadd sum (fmul reference x)

/-- The open block with the sample `x` added against the cosine and sine references of the lanes (R123). -/
def accumBlock (b : Block) (cosines sines : Lanes F32) (x : F32) : Block :=
  ⟨accumulate b.e x x, Vector.ofFn fun k => accumulate b.i[k] cosines[k] x,
    Vector.ofFn fun k => accumulate b.q[k] sines[k] x⟩

/-- `ACCUM`, U1 (R123), on the operand and the references of the running operation. -/
def accumOp (s : State) : State := s.setAcc (accumBlock s.acc s.tr.c s.tr.s s.tr.x)

/-- `COUNT`, U3 (R125): the decrement; the test for zero is `closing`. -/
def countOp (s : State) : State := s.setCnt (s.cnt - 1#16)

/-- The window with a block inserted as slot 0 and the oldest block lost (R127). -/
def pushBlock (b : Block) (win : Vector Block 4) : Vector Block 4 :=
  #v[b, win[(0 : Slot)], win[(1 : Slot)], win[(2 : Slot)]]

/-- `CLOSE`, U4 (R127): all reads before all writes. -/
def closeOp (s : State) : State :=
  ((s.setWin (pushBlock s.acc s.win)).setAcc Block.zero).setCnt (blockLenWord s.cfg)

/-- The sum over the window of one element of the block records: from `+0`, slots 0, 1, 2, 3 in that order (R130). -/
def windowSum (element : Block → F32) (win : Vector Block 4) : F32 :=
  slots.foldl (fun sum b => fadd sum (element win[b])) posZero

/-- The magnitude `m[k] = fadd(fmul(I, I), fmul(Q, Q))` (R130; squared, 90_conflicts.md C3). -/
def magnitude (win : Vector Block 4) (k : Lane) : F32 :=
  fadd (fmul (windowSum (fun b => b.i[k]) win) (windowSum (fun b => b.i[k]) win))
    (fmul (windowSum (fun b => b.q[k]) win) (windowSum (fun b => b.q[k]) win))

/-- `m[0..9]` (R130). -/
def magnitudes (win : Vector Block 4) : Lanes F32 := Vector.ofFn fun k => magnitude win k

/-- `totE = fmul(E, C_SCALE)` (R130). -/
def scaledEnergy (c : Cfg) (win : Vector Block 4) : F32 := fmul (windowSum (fun b => b.e) win) (cScale c)

/-- `AGGREGATE`, U5 (R130): "Writes no state"; the results are transients. -/
def aggregateOp (s : State) : State := s.setTr { s.tr with totE := scaledEnergy s.cfg s.win, m := magnitudes s.win }

/-- The meaning of `ACCUM` (R123). -/
def execAccum (s : State) : Host.Outcome State Fault Refusal := .next (accumOp s)

/-- The meaning of `COUNT` (R125). -/
def execCount (s : State) : Host.Outcome State Fault Refusal := .next (countOp s)

/-- The meaning of `CLOSE` (R127). -/
def execClose (s : State) : Host.Outcome State Fault Refusal := .next (closeOp s)

/-- The meaning of `AGGREGATE` (R130). -/
def execAggregate (s : State) : Host.Outcome State Fault Refusal := .next (aggregateOp s)

end Sys2Proof.Machine
end

