-- ==== Sys2Proof/Machine/CosRom.lean ====
section
/-! DEFINITION. The cosine table `COSROM`, transcribed from spec/40_nco.md rule R104: eight entries a row, as there. -/

namespace Sys2Proof.Machine

/-- `COSROM[0..127]` (R104). -/
def cosRomPiece0 : List (List F32) := [
  [0x3F800000, 0x3F7FFEC4, 0x3F7FFB11, 0x3F7FF4E6, 0x3F7FEC43, 0x3F7FE129, 0x3F7FD397, 0x3F7FC38F],
  [0x3F7FB10F, 0x3F7F9C18, 0x3F7F84AB, 0x3F7F6AC7, 0x3F7F4E6D, 0x3F7F2F9D, 0x3F7F0E58, 0x3F7EEA9D],
  [0x3F7EC46D, 0x3F7E9BC9, 0x3F7E70B0, 0x3F7E4323, 0x3F7E1324, 0x3F7DE0B1, 0x3F7DABCC, 0x3F7D7474],
  [0x3F7D3AAC, 0x3F7CFE73, 0x3F7CBFC9, 0x3F7C7EB0, 0x3F7C3B28, 0x3F7BF531, 0x3F7BACCD, 0x3F7B61FC],
  [0x3F7B14BE, 0x3F7AC516, 0x3F7A7302, 0x3F7A1E84, 0x3F79C79D, 0x3F796E4E, 0x3F791298, 0x3F78B47B],
  [0x3F7853F8, 0x3F77F110, 0x3F778BC5, 0x3F772417, 0x3F76BA07, 0x3F764D97, 0x3F75DEC6, 0x3F756D97],
  [0x3F74FA0B, 0x3F748422, 0x3F740BDD, 0x3F73913F, 0x3F731447, 0x3F7294F8, 0x3F721352, 0x3F718F57],
  [0x3F710908, 0x3F708066, 0x3F6FF573, 0x3F6F6830, 0x3F6ED89E, 0x3F6E46BE, 0x3F6DB293, 0x3F6D1C1D],
  [0x3F6C835E, 0x3F6BE858, 0x3F6B4B0C, 0x3F6AAB7B, 0x3F6A09A7, 0x3F696591, 0x3F68BF3C, 0x3F6816A8],
  [0x3F676BD8, 0x3F66BECC, 0x3F660F88, 0x3F655E0B, 0x3F64AA59, 0x3F63F473, 0x3F633C5A, 0x3F628210],
  [0x3F61C598, 0x3F6106F2, 0x3F604621, 0x3F5F8327, 0x3F5EBE05, 0x3F5DF6BE, 0x3F5D2D53, 0x3F5C61C7],
  [0x3F5B941A, 0x3F5AC450, 0x3F59F26A, 0x3F591E6A, 0x3F584853, 0x3F577026, 0x3F5695E5, 0x3F55B993],
  [0x3F54DB31, 0x3F53FAC3, 0x3F531849, 0x3F5233C6, 0x3F514D3D, 0x3F5064AF, 0x3F4F7A1F, 0x3F4E8D90],
  [0x3F4D9F02, 0x3F4CAE79, 0x3F4BBBF8, 0x3F4AC77F, 0x3F49D112, 0x3F48D8B3, 0x3F47DE65, 0x3F46E22A],
  [0x3F45E403, 0x3F44E3F5, 0x3F43E200, 0x3F42DE29, 0x3F41D870, 0x3F40D0DA, 0x3F3FC767, 0x3F3EBC1B],
  [0x3F3DAEF9, 0x3F3CA003, 0x3F3B8F3B, 0x3F3A7CA4, 0x3F396842, 0x3F385216, 0x3F373A23, 0x3F36206C]]

/-- `COSROM[128..255]` (R104). -/
def cosRomPiece1 : List (List F32) := [
  [0x3F3504F3, 0x3F33E7BC, 0x3F32C8C9, 0x3F31A81D, 0x3F3085BB, 0x3F2F61A5, 0x3F2E3BDE, 0x3F2D1469],
  [0x3F2BEB4A, 0x3F2AC082, 0x3F299415, 0x3F286605, 0x3F273656, 0x3F26050A, 0x3F24D225, 0x3F239DA9],
  [0x3F226799, 0x3F212FF9, 0x3F1FF6CB, 0x3F1EBC12, 0x3F1D7FD1, 0x3F1C420C, 0x3F1B02C6, 0x3F19C200],
  [0x3F187FC0, 0x3F173C07, 0x3F15F6D9, 0x3F14B039, 0x3F13682A, 0x3F121EB0, 0x3F10D3CD, 0x3F0F8784],
  [0x3F0E39DA, 0x3F0CEAD0, 0x3F0B9A6B, 0x3F0A48AD, 0x3F08F59B, 0x3F07A136, 0x3F064B82, 0x3F04F484],
  [0x3F039C3D, 0x3F0242B1, 0x3F00E7E4, 0x3EFF17B2, 0x3EFC5D27, 0x3EF9A02D, 0x3EF6E0CB, 0x3EF41F07],
  [0x3EF15AEA, 0x3EEE9479, 0x3EEBCBBB, 0x3EE900B7, 0x3EE63375, 0x3EE363FA, 0x3EE0924F, 0x3EDDBE79],
  [0x3EDAE880, 0x3ED8106B, 0x3ED53641, 0x3ED25A09, 0x3ECF7BCA, 0x3ECC9B8B, 0x3EC9B953, 0x3EC6D529],
  [0x3EC3EF15, 0x3EC1071E, 0x3EBE1D4A, 0x3EBB31A0, 0x3EB8442A, 0x3EB554EC, 0x3EB263EF, 0x3EAF713A],
  [0x3EAC7CD4, 0x3EA986C4, 0x3EA68F12, 0x3EA395C5, 0x3EA09AE5, 0x3E9D9E78, 0x3E9AA086, 0x3E97A117],
  [0x3E94A031, 0x3E919DDD, 0x3E8E9A22, 0x3E8B9507, 0x3E888E93, 0x3E8586CE, 0x3E827DC0, 0x3E7EE6E1],
  [0x3E78CFCC, 0x3E72B651, 0x3E6C9A7F, 0x3E667C66, 0x3E605C13, 0x3E5A3997, 0x3E541501, 0x3E4DEE60],
  [0x3E47C5C2, 0x3E419B37, 0x3E3B6ECF, 0x3E354098, 0x3E2F10A2, 0x3E28DEFC, 0x3E22ABB6, 0x3E1C76DE],
  [0x3E164083, 0x3E1008B7, 0x3E09CF86, 0x3E039502, 0x3DFAB273, 0x3DEE3876, 0x3DE1BC2E, 0x3DD53DB9],
  [0x3DC8BD36, 0x3DBC3AC3, 0x3DAFB680, 0x3DA3308C, 0x3D96A905, 0x3D8A200A, 0x3D7B2B74, 0x3D621469],
  [0x3D48FB30, 0x3D2FE007, 0x3D16C32C, 0x3CFB49BA, 0x3CC90AB0, 0x3C96C9B6, 0x3C490E90, 0x3BC90F88]]

/-- `COSROM[256..383]` (R104). -/
def cosRomPiece2 : List (List F32) := [
  [0x00000000, 0xBBC90F88, 0xBC490E90, 0xBC96C9B6, 0xBCC90AB0, 0xBCFB49BA, 0xBD16C32C, 0xBD2FE007],
  [0xBD48FB30, 0xBD621469, 0xBD7B2B74, 0xBD8A200A, 0xBD96A905, 0xBDA3308C, 0xBDAFB680, 0xBDBC3AC3],
  [0xBDC8BD36, 0xBDD53DB9, 0xBDE1BC2E, 0xBDEE3876, 0xBDFAB273, 0xBE039502, 0xBE09CF86, 0xBE1008B7],
  [0xBE164083, 0xBE1C76DE, 0xBE22ABB6, 0xBE28DEFC, 0xBE2F10A2, 0xBE354098, 0xBE3B6ECF, 0xBE419B37],
  [0xBE47C5C2, 0xBE4DEE60, 0xBE541501, 0xBE5A3997, 0xBE605C13, 0xBE667C66, 0xBE6C9A7F, 0xBE72B651],
  [0xBE78CFCC, 0xBE7EE6E1, 0xBE827DC0, 0xBE8586CE, 0xBE888E93, 0xBE8B9507, 0xBE8E9A22, 0xBE919DDD],
  [0xBE94A031, 0xBE97A117, 0xBE9AA086, 0xBE9D9E78, 0xBEA09AE5, 0xBEA395C5, 0xBEA68F12, 0xBEA986C4],
  [0xBEAC7CD4, 0xBEAF713A, 0xBEB263EF, 0xBEB554EC, 0xBEB8442A, 0xBEBB31A0, 0xBEBE1D4A, 0xBEC1071E],
  [0xBEC3EF15, 0xBEC6D529, 0xBEC9B953, 0xBECC9B8B, 0xBECF7BCA, 0xBED25A09, 0xBED53641, 0xBED8106B],
  [0xBEDAE880, 0xBEDDBE79, 0xBEE0924F, 0xBEE363FA, 0xBEE63375, 0xBEE900B7, 0xBEEBCBBB, 0xBEEE9479],
  [0xBEF15AEA, 0xBEF41F07, 0xBEF6E0CB, 0xBEF9A02D, 0xBEFC5D27, 0xBEFF17B2, 0xBF00E7E4, 0xBF0242B1],
  [0xBF039C3D, 0xBF04F484, 0xBF064B82, 0xBF07A136, 0xBF08F59B, 0xBF0A48AD, 0xBF0B9A6B, 0xBF0CEAD0],
  [0xBF0E39DA, 0xBF0F8784, 0xBF10D3CD, 0xBF121EB0, 0xBF13682A, 0xBF14B039, 0xBF15F6D9, 0xBF173C07],
  [0xBF187FC0, 0xBF19C200, 0xBF1B02C6, 0xBF1C420C, 0xBF1D7FD1, 0xBF1EBC12, 0xBF1FF6CB, 0xBF212FF9],
  [0xBF226799, 0xBF239DA9, 0xBF24D225, 0xBF26050A, 0xBF273656, 0xBF286605, 0xBF299415, 0xBF2AC082],
  [0xBF2BEB4A, 0xBF2D1469, 0xBF2E3BDE, 0xBF2F61A5, 0xBF3085BB, 0xBF31A81D, 0xBF32C8C9, 0xBF33E7BC]]

/-- `COSROM[384..511]` (R104). -/
def cosRomPiece3 : List (List F32) := [
  [0xBF3504F3, 0xBF36206C, 0xBF373A23, 0xBF385216, 0xBF396842, 0xBF3A7CA4, 0xBF3B8F3B, 0xBF3CA003],
  [0xBF3DAEF9, 0xBF3EBC1B, 0xBF3FC767, 0xBF40D0DA, 0xBF41D870, 0xBF42DE29, 0xBF43E200, 0xBF44E3F5],
  [0xBF45E403, 0xBF46E22A, 0xBF47DE65, 0xBF48D8B3, 0xBF49D112, 0xBF4AC77F, 0xBF4BBBF8, 0xBF4CAE79],
  [0xBF4D9F02, 0xBF4E8D90, 0xBF4F7A1F, 0xBF5064AF, 0xBF514D3D, 0xBF5233C6, 0xBF531849, 0xBF53FAC3],
  [0xBF54DB31, 0xBF55B993, 0xBF5695E5, 0xBF577026, 0xBF584853, 0xBF591E6A, 0xBF59F26A, 0xBF5AC450],
  [0xBF5B941A, 0xBF5C61C7, 0xBF5D2D53, 0xBF5DF6BE, 0xBF5EBE05, 0xBF5F8327, 0xBF604621, 0xBF6106F2],
  [0xBF61C598, 0xBF628210, 0xBF633C5A, 0xBF63F473, 0xBF64AA59, 0xBF655E0B, 0xBF660F88, 0xBF66BECC],
  [0xBF676BD8, 0xBF6816A8, 0xBF68BF3C, 0xBF696591, 0xBF6A09A7, 0xBF6AAB7B, 0xBF6B4B0C, 0xBF6BE858],
  [0xBF6C835E, 0xBF6D1C1D, 0xBF6DB293, 0xBF6E46BE, 0xBF6ED89E, 0xBF6F6830, 0xBF6FF573, 0xBF708066],
  [0xBF710908, 0xBF718F57, 0xBF721352, 0xBF7294F8, 0xBF731447, 0xBF73913F, 0xBF740BDD, 0xBF748422],
  [0xBF74FA0B, 0xBF756D97, 0xBF75DEC6, 0xBF764D97, 0xBF76BA07, 0xBF772417, 0xBF778BC5, 0xBF77F110],
  [0xBF7853F8, 0xBF78B47B, 0xBF791298, 0xBF796E4E, 0xBF79C79D, 0xBF7A1E84, 0xBF7A7302, 0xBF7AC516],
  [0xBF7B14BE, 0xBF7B61FC, 0xBF7BACCD, 0xBF7BF531, 0xBF7C3B28, 0xBF7C7EB0, 0xBF7CBFC9, 0xBF7CFE73],
  [0xBF7D3AAC, 0xBF7D7474, 0xBF7DABCC, 0xBF7DE0B1, 0xBF7E1324, 0xBF7E4323, 0xBF7E70B0, 0xBF7E9BC9],
  [0xBF7EC46D, 0xBF7EEA9D, 0xBF7F0E58, 0xBF7F2F9D, 0xBF7F4E6D, 0xBF7F6AC7, 0xBF7F84AB, 0xBF7F9C18],
  [0xBF7FB10F, 0xBF7FC38F, 0xBF7FD397, 0xBF7FE129, 0xBF7FEC43, 0xBF7FF4E6, 0xBF7FFB11, 0xBF7FFEC4]]

/-- `COSROM[512..639]` (R104). -/
def cosRomPiece4 : List (List F32) := [
  [0xBF800000, 0xBF7FFEC4, 0xBF7FFB11, 0xBF7FF4E6, 0xBF7FEC43, 0xBF7FE129, 0xBF7FD397, 0xBF7FC38F],
  [0xBF7FB10F, 0xBF7F9C18, 0xBF7F84AB, 0xBF7F6AC7, 0xBF7F4E6D, 0xBF7F2F9D, 0xBF7F0E58, 0xBF7EEA9D],
  [0xBF7EC46D, 0xBF7E9BC9, 0xBF7E70B0, 0xBF7E4323, 0xBF7E1324, 0xBF7DE0B1, 0xBF7DABCC, 0xBF7D7474],
  [0xBF7D3AAC, 0xBF7CFE73, 0xBF7CBFC9, 0xBF7C7EB0, 0xBF7C3B28, 0xBF7BF531, 0xBF7BACCD, 0xBF7B61FC],
  [0xBF7B14BE, 0xBF7AC516, 0xBF7A7302, 0xBF7A1E84, 0xBF79C79D, 0xBF796E4E, 0xBF791298, 0xBF78B47B],
  [0xBF7853F8, 0xBF77F110, 0xBF778BC5, 0xBF772417, 0xBF76BA07, 0xBF764D97, 0xBF75DEC6, 0xBF756D97],
  [0xBF74FA0B, 0xBF748422, 0xBF740BDD, 0xBF73913F, 0xBF731447, 0xBF7294F8, 0xBF721352, 0xBF718F57],
  [0xBF710908, 0xBF708066, 0xBF6FF573, 0xBF6F6830, 0xBF6ED89E, 0xBF6E46BE, 0xBF6DB293, 0xBF6D1C1D],
  [0xBF6C835E, 0xBF6BE858, 0xBF6B4B0C, 0xBF6AAB7B, 0xBF6A09A7, 0xBF696591, 0xBF68BF3C, 0xBF6816A8],
  [0xBF676BD8, 0xBF66BECC, 0xBF660F88, 0xBF655E0B, 0xBF64AA59, 0xBF63F473, 0xBF633C5A, 0xBF628210],
  [0xBF61C598, 0xBF6106F2, 0xBF604621, 0xBF5F8327, 0xBF5EBE05, 0xBF5DF6BE, 0xBF5D2D53, 0xBF5C61C7],
  [0xBF5B941A, 0xBF5AC450, 0xBF59F26A, 0xBF591E6A, 0xBF584853, 0xBF577026, 0xBF5695E5, 0xBF55B993],
  [0xBF54DB31, 0xBF53FAC3, 0xBF531849, 0xBF5233C6, 0xBF514D3D, 0xBF5064AF, 0xBF4F7A1F, 0xBF4E8D90],
  [0xBF4D9F02, 0xBF4CAE79, 0xBF4BBBF8, 0xBF4AC77F, 0xBF49D112, 0xBF48D8B3, 0xBF47DE65, 0xBF46E22A],
  [0xBF45E403, 0xBF44E3F5, 0xBF43E200, 0xBF42DE29, 0xBF41D870, 0xBF40D0DA, 0xBF3FC767, 0xBF3EBC1B],
  [0xBF3DAEF9, 0xBF3CA003, 0xBF3B8F3B, 0xBF3A7CA4, 0xBF396842, 0xBF385216, 0xBF373A23, 0xBF36206C]]

/-- `COSROM[640..767]` (R104). -/
def cosRomPiece5 : List (List F32) := [
  [0xBF3504F3, 0xBF33E7BC, 0xBF32C8C9, 0xBF31A81D, 0xBF3085BB, 0xBF2F61A5, 0xBF2E3BDE, 0xBF2D1469],
  [0xBF2BEB4A, 0xBF2AC082, 0xBF299415, 0xBF286605, 0xBF273656, 0xBF26050A, 0xBF24D225, 0xBF239DA9],
  [0xBF226799, 0xBF212FF9, 0xBF1FF6CB, 0xBF1EBC12, 0xBF1D7FD1, 0xBF1C420C, 0xBF1B02C6, 0xBF19C200],
  [0xBF187FC0, 0xBF173C07, 0xBF15F6D9, 0xBF14B039, 0xBF13682A, 0xBF121EB0, 0xBF10D3CD, 0xBF0F8784],
  [0xBF0E39DA, 0xBF0CEAD0, 0xBF0B9A6B, 0xBF0A48AD, 0xBF08F59B, 0xBF07A136, 0xBF064B82, 0xBF04F484],
  [0xBF039C3D, 0xBF0242B1, 0xBF00E7E4, 0xBEFF17B2, 0xBEFC5D27, 0xBEF9A02D, 0xBEF6E0CB, 0xBEF41F07],
  [0xBEF15AEA, 0xBEEE9479, 0xBEEBCBBB, 0xBEE900B7, 0xBEE63375, 0xBEE363FA, 0xBEE0924F, 0xBEDDBE79],
  [0xBEDAE880, 0xBED8106B, 0xBED53641, 0xBED25A09, 0xBECF7BCA, 0xBECC9B8B, 0xBEC9B953, 0xBEC6D529],
  [0xBEC3EF15, 0xBEC1071E, 0xBEBE1D4A, 0xBEBB31A0, 0xBEB8442A, 0xBEB554EC, 0xBEB263EF, 0xBEAF713A],
  [0xBEAC7CD4, 0xBEA986C4, 0xBEA68F12, 0xBEA395C5, 0xBEA09AE5, 0xBE9D9E78, 0xBE9AA086, 0xBE97A117],
  [0xBE94A031, 0xBE919DDD, 0xBE8E9A22, 0xBE8B9507, 0xBE888E93, 0xBE8586CE, 0xBE827DC0, 0xBE7EE6E1],
  [0xBE78CFCC, 0xBE72B651, 0xBE6C9A7F, 0xBE667C66, 0xBE605C13, 0xBE5A3997, 0xBE541501, 0xBE4DEE60],
  [0xBE47C5C2, 0xBE419B37, 0xBE3B6ECF, 0xBE354098, 0xBE2F10A2, 0xBE28DEFC, 0xBE22ABB6, 0xBE1C76DE],
  [0xBE164083, 0xBE1008B7, 0xBE09CF86, 0xBE039502, 0xBDFAB273, 0xBDEE3876, 0xBDE1BC2E, 0xBDD53DB9],
  [0xBDC8BD36, 0xBDBC3AC3, 0xBDAFB680, 0xBDA3308C, 0xBD96A905, 0xBD8A200A, 0xBD7B2B74, 0xBD621469],
  [0xBD48FB30, 0xBD2FE007, 0xBD16C32C, 0xBCFB49BA, 0xBCC90AB0, 0xBC96C9B6, 0xBC490E90, 0xBBC90F88]]

/-- `COSROM[768..895]` (R104). -/
def cosRomPiece6 : List (List F32) := [
  [0x00000000, 0x3BC90F88, 0x3C490E90, 0x3C96C9B6, 0x3CC90AB0, 0x3CFB49BA, 0x3D16C32C, 0x3D2FE007],
  [0x3D48FB30, 0x3D621469, 0x3D7B2B74, 0x3D8A200A, 0x3D96A905, 0x3DA3308C, 0x3DAFB680, 0x3DBC3AC3],
  [0x3DC8BD36, 0x3DD53DB9, 0x3DE1BC2E, 0x3DEE3876, 0x3DFAB273, 0x3E039502, 0x3E09CF86, 0x3E1008B7],
  [0x3E164083, 0x3E1C76DE, 0x3E22ABB6, 0x3E28DEFC, 0x3E2F10A2, 0x3E354098, 0x3E3B6ECF, 0x3E419B37],
  [0x3E47C5C2, 0x3E4DEE60, 0x3E541501, 0x3E5A3997, 0x3E605C13, 0x3E667C66, 0x3E6C9A7F, 0x3E72B651],
  [0x3E78CFCC, 0x3E7EE6E1, 0x3E827DC0, 0x3E8586CE, 0x3E888E93, 0x3E8B9507, 0x3E8E9A22, 0x3E919DDD],
  [0x3E94A031, 0x3E97A117, 0x3E9AA086, 0x3E9D9E78, 0x3EA09AE5, 0x3EA395C5, 0x3EA68F12, 0x3EA986C4],
  [0x3EAC7CD4, 0x3EAF713A, 0x3EB263EF, 0x3EB554EC, 0x3EB8442A, 0x3EBB31A0, 0x3EBE1D4A, 0x3EC1071E],
  [0x3EC3EF15, 0x3EC6D529, 0x3EC9B953, 0x3ECC9B8B, 0x3ECF7BCA, 0x3ED25A09, 0x3ED53641, 0x3ED8106B],
  [0x3EDAE880, 0x3EDDBE79, 0x3EE0924F, 0x3EE363FA, 0x3EE63375, 0x3EE900B7, 0x3EEBCBBB, 0x3EEE9479],
  [0x3EF15AEA, 0x3EF41F07, 0x3EF6E0CB, 0x3EF9A02D, 0x3EFC5D27, 0x3EFF17B2, 0x3F00E7E4, 0x3F0242B1],
  [0x3F039C3D, 0x3F04F484, 0x3F064B82, 0x3F07A136, 0x3F08F59B, 0x3F0A48AD, 0x3F0B9A6B, 0x3F0CEAD0],
  [0x3F0E39DA, 0x3F0F8784, 0x3F10D3CD, 0x3F121EB0, 0x3F13682A, 0x3F14B039, 0x3F15F6D9, 0x3F173C07],
  [0x3F187FC0, 0x3F19C200, 0x3F1B02C6, 0x3F1C420C, 0x3F1D7FD1, 0x3F1EBC12, 0x3F1FF6CB, 0x3F212FF9],
  [0x3F226799, 0x3F239DA9, 0x3F24D225, 0x3F26050A, 0x3F273656, 0x3F286605, 0x3F299415, 0x3F2AC082],
  [0x3F2BEB4A, 0x3F2D1469, 0x3F2E3BDE, 0x3F2F61A5, 0x3F3085BB, 0x3F31A81D, 0x3F32C8C9, 0x3F33E7BC]]

/-- `COSROM[896..1023]` (R104). -/
def cosRomPiece7 : List (List F32) := [
  [0x3F3504F3, 0x3F36206C, 0x3F373A23, 0x3F385216, 0x3F396842, 0x3F3A7CA4, 0x3F3B8F3B, 0x3F3CA003],
  [0x3F3DAEF9, 0x3F3EBC1B, 0x3F3FC767, 0x3F40D0DA, 0x3F41D870, 0x3F42DE29, 0x3F43E200, 0x3F44E3F5],
  [0x3F45E403, 0x3F46E22A, 0x3F47DE65, 0x3F48D8B3, 0x3F49D112, 0x3F4AC77F, 0x3F4BBBF8, 0x3F4CAE79],
  [0x3F4D9F02, 0x3F4E8D90, 0x3F4F7A1F, 0x3F5064AF, 0x3F514D3D, 0x3F5233C6, 0x3F531849, 0x3F53FAC3],
  [0x3F54DB31, 0x3F55B993, 0x3F5695E5, 0x3F577026, 0x3F584853, 0x3F591E6A, 0x3F59F26A, 0x3F5AC450],
  [0x3F5B941A, 0x3F5C61C7, 0x3F5D2D53, 0x3F5DF6BE, 0x3F5EBE05, 0x3F5F8327, 0x3F604621, 0x3F6106F2],
  [0x3F61C598, 0x3F628210, 0x3F633C5A, 0x3F63F473, 0x3F64AA59, 0x3F655E0B, 0x3F660F88, 0x3F66BECC],
  [0x3F676BD8, 0x3F6816A8, 0x3F68BF3C, 0x3F696591, 0x3F6A09A7, 0x3F6AAB7B, 0x3F6B4B0C, 0x3F6BE858],
  [0x3F6C835E, 0x3F6D1C1D, 0x3F6DB293, 0x3F6E46BE, 0x3F6ED89E, 0x3F6F6830, 0x3F6FF573, 0x3F708066],
  [0x3F710908, 0x3F718F57, 0x3F721352, 0x3F7294F8, 0x3F731447, 0x3F73913F, 0x3F740BDD, 0x3F748422],
  [0x3F74FA0B, 0x3F756D97, 0x3F75DEC6, 0x3F764D97, 0x3F76BA07, 0x3F772417, 0x3F778BC5, 0x3F77F110],
  [0x3F7853F8, 0x3F78B47B, 0x3F791298, 0x3F796E4E, 0x3F79C79D, 0x3F7A1E84, 0x3F7A7302, 0x3F7AC516],
  [0x3F7B14BE, 0x3F7B61FC, 0x3F7BACCD, 0x3F7BF531, 0x3F7C3B28, 0x3F7C7EB0, 0x3F7CBFC9, 0x3F7CFE73],
  [0x3F7D3AAC, 0x3F7D7474, 0x3F7DABCC, 0x3F7DE0B1, 0x3F7E1324, 0x3F7E4323, 0x3F7E70B0, 0x3F7E9BC9],
  [0x3F7EC46D, 0x3F7EEA9D, 0x3F7F0E58, 0x3F7F2F9D, 0x3F7F4E6D, 0x3F7F6AC7, 0x3F7F84AB, 0x3F7F9C18],
  [0x3F7FB10F, 0x3F7FC38F, 0x3F7FD397, 0x3F7FE129, 0x3F7FEC43, 0x3F7FF4E6, 0x3F7FFB11, 0x3F7FFEC4]]

/-- The rows of `COSROM` (R104). -/
def cosRomRows : List (List F32) :=
  cosRomPiece0 ++ cosRomPiece1 ++ cosRomPiece2 ++ cosRomPiece3 ++ cosRomPiece4 ++ cosRomPiece5 ++ cosRomPiece6 ++
    cosRomPiece7

/-- `COSROM[idx]`, idx a 10-bit index (R103). The default of a `getD` is never taken: 128 rows of 8 entries. -/
def cosRom (idx : BitVec 10) : F32 := (cosRomRows.getD (idx.toNat / 8) []).getD (idx.toNat % 8) posZero

end Sys2Proof.Machine
end

