-- ==== Sys2Proof/Machine/Operands.lean ====
section
/-! DEFINITION. Operand assembly (spec/30_encoding.md rule R74): the cosine and sine references of a phase
(spec/40_nco.md rules R102, R105). The operand of `SAMPLE` is `twData` of Decode.lean. -/

namespace Sys2Proof.Machine

/-- The cosine-table index of a phase, `p[15:6]`: truncation, the six low bits do not matter (R102). -/
def cosIndex (p : Phase) : BitVec 10 := p.extractLsb' 6 10

/-- `cosRef(p) = COSROM[p[15:6]]` (R102). -/
def cosRef (p : Phase) : F32 := cosRom (cosIndex p)

/-- `sinRef(p) = cosRef((p + 0xC000) mod 65536)` (R105). -/
def sinRef (p : Phase) : F32 := cosRef (p + 0xC000#16)

end Sys2Proof.Machine
end

