-- ==== Sys2Proof/Machine/Nco.lean ====
section
/-! DEFINITION. The NCO bank: `REF` and `ADVANCE` (spec/40_nco.md rules R100 to R108). -/

namespace Sys2Proof.Machine

/-- The cosine references of the phases (R101). -/
def cosRefs (ph : Lanes Phase) : Lanes F32 := Vector.ofFn fun k => cosRef ph[k]

/-- The sine references of the phases (R101). -/
def sinRefs (ph : Lanes Phase) : Lanes F32 := Vector.ofFn fun k => sinRef ph[k]

/-- The phases one sample later, each lane modulo 65536 (R106). -/
def advancedPhases (inc ph : Lanes Phase) : Lanes Phase := Vector.ofFn fun k => ph[k] + inc[k]

/-- `REF`, U0 (R101): "Writes no state"; the references are transients. -/
def refOp (s : State) : State := s.setTr { s.tr with c := cosRefs s.ph, s := sinRefs s.ph }

/-- `ADVANCE`, U2 (R106). -/
def advanceOp (s : State) : State := s.setPh (advancedPhases s.cfg.inc s.ph)

/-- The meaning of `REF` (R101). -/
def execRef (s : State) : Host.Outcome State Fault Refusal := .next (refOp s)

/-- The meaning of `ADVANCE` (R106). -/
def execAdvance (s : State) : Host.Outcome State Fault Refusal := .next (advanceOp s)

end Sys2Proof.Machine
end

