-- ==== Sys2Proof/Machine/Flags.lean ====
section
/-! DEFINITION. The machine's only status, the decision (spec/10_state.md rule R29), its word DEC, the event word EW and
the reason codes (spec/30_encoding.md rules R75, R76, R84). -/

namespace Sys2Proof.Machine

/-- A decision (R29). -/
inductive Decision where
  | noSignal
  | ambiguous
  /-- `Pair(lowIndex, highIndex)`. -/
  | pair (low high : Lane)
  deriving DecidableEq, Repr

/-- The decision word of a decision (R75): `0x000`, `0x100`, `0x200 + 16*low + high`. -/
def decWord : Decision → DecWord
  | .noSignal => 0x000#10
  | .ambiguous => 0x100#10
  | .pair low high => BitVec.ofNat 10 (0x200 + 16 * low.val + high.val)

/-- DEC[9:8] (R75). -/
def decKind (d : DecWord) : BitVec 2 := d.extractLsb' 8 2

/-- DEC[7:4] (R75). -/
def decLow (d : DecWord) : BitVec 4 := d.extractLsb' 4 4

/-- DEC[3:0] (R75). -/
def decHigh (d : DecWord) : BitVec 4 := d.extractLsb' 0 4

/-- Kind `10`: a Pair (R75). -/
def isPair (d : DecWord) : Bool := decKind d == 2#2

/-- A well-formed decision word (R75): `0x000`, `0x100`, or kind `10` with `0 <= low < high <= 9`. -/
def decWellFormed (d : DecWord) : Bool :=
  d == 0x000#10 || d == 0x100#10 ||
    (isPair d && decide ((decLow d).toNat < (decHigh d).toNat) && decide ((decHigh d).toNat ≤ 9))

/-- `Pair(min(i, j), max(i, j))` (R155, R157). -/
def normalisedPair (i j : Lane) : Decision := .pair (min i j) (max i j)

/-- The event word of a Pair, `DEC[7:0]` (R76). -/
def eventWord (d : DecWord) : EventWord := d.extractLsb' 0 8

/-- The emit condition (R171): "decision is Pair AND decision != previous". -/
def emits (previous d : DecWord) : Bool := isPair d && d != previous

/-- What `REPORT` puts on the event port (R170, R172). -/
def eventOf (previous d : DecWord) : Option EventWord := if emits previous d then some (eventWord d) else none

/-- The reason code of the diagnostic record, 3 bits (R84). -/
def reasonCode : Reason → BitVec 3
  | .pair => 0#3
  | .noPrimary => 1#3
  | .noSecondary => 2#3
  | .thirdPeak => 3#3
  | .signalFloor => 4#3

end Sys2Proof.Machine
end

