-- ==== Sys2Proof/Machine/Reporter.lean ====
section
/-! DEFINITION. The change-only reporter: `REPORT` (spec/43_reporter.md rules R170 to R173). -/

namespace Sys2Proof.Machine

/-- `REPORT`, U7 (R170), on the decision of `SELECT`: the event if any (R171, R172), then `last <- dec` (R173). -/
def reportOp (s : State) : State := (s.setEvt (eventOf s.last s.tr.dec)).setLast s.tr.dec

/-- The meaning of `REPORT` (R170). -/
def execReport (s : State) : Host.Outcome State Fault Refusal := .next (reportOp s)

end Sys2Proof.Machine
end

