-- ==== Sys2Proof/Machine/Selector.lean ====
section
/-! DEFINITION. The magnitude peak-selector with dominance threshold: `SELECT` (spec/42_selector.md rules R150 to R157). -/

namespace Sys2Proof.Machine

/-- One comparison of a scan: a lane that is not ignored and exceeds the running maximum replaces it (R151, R152). -/
def scanLane (m : Lanes F32) (ignored : Option Lane) (best : F32 × Option Lane) (k : Lane) : F32 × Option Lane :=
  if ignored ≠ some k ∧ fgt m[k] best.1 then (m[k], some k) else best

/-- The scan of all lanes in ascending order, the running maximum starting at `+0` (R151, R152). -/
def scanPeak (m : Lanes F32) (ignored : Option Lane) : Option Lane :=
  (lanes.foldl (scanLane m ignored) (posZero, none)).2

/-- Step 1, the primary peak (R151). -/
def primary (m : Lanes F32) : Option Lane := scanPeak m none

/-- Step 2, the secondary peak: the same scan "ignoring index `i`" (R152). -/
def secondary (m : Lanes F32) (i : Lane) : Option Lane := scanPeak m (some i)

/-- Step 3, the dominance check: a third lane above a tenth of the secondary peak (R153). -/
def thirdPeak (m : Lanes F32) (i j : Lane) : Bool :=
  lanes.any fun k => k != i && k != j && fgt m[k] (fmul m[j] cFloor)

/-- Step 4, the signal-floor check (R154). -/
def belowFloor (m : Lanes F32) (i j : Lane) (totE : F32) : Bool := fgt (fmul totE cSig) (fadd m[i] m[j])

/-- `SELECT(m, totE)` (R150): the four tests in the order of R207, then the pair (R155). -/
def selectDecision (m : Lanes F32) (totE : F32) : Decision × Reason :=
  match primary m with
  | none => (.noSignal, .noPrimary)
  | some i =>
    match secondary m i with
    | none => (.noSignal, .noSecondary)
    | some j =>
      if thirdPeak m i j then (.ambiguous, .thirdPeak)
      else if belowFloor m i j totE then (.noSignal, .signalFloor)
      else (normalisedPair i j, .pair)

/-- `SELECT`, U6 (R150): a pure function of the operands that `AGGREGATE` left; "it reads no state and writes none". -/
def selectOp (s : State) : State :=
  s.setTr { s.tr with
    dec := decWord (selectDecision s.tr.m s.tr.totE).1
    reason := (selectDecision s.tr.m s.tr.totE).2 }

/-- The meaning of `SELECT` (R150). -/
def execSelect (s : State) : Host.Outcome State Fault Refusal := .next (selectOp s)

end Sys2Proof.Machine
end

