-- ==== Sys2Proof/Machine/Operations.lean ====
section
/-! DEFINITION. The three host-selectable operations: `INIT` (spec/44_host_interface.md rule R186), `SAMPLE`
(spec/41_accumulator.md rule R120), `IDLE` (spec/44_host_interface.md rule R182). -/

namespace Sys2Proof.Machine

/-- The writes of `INIT` (R186), to the values of R34. -/
def writeResetValues (s : State) : State :=
  (((((s.setPh (Vector.replicate 10 0#16)).setAcc Block.zero).setWin (Vector.replicate 4 Block.zero)).setCnt
    (blockLenWord s.cfg)).setLast 0x000#10).setInited true

/-- U0 to U3, which every `SAMPLE` runs (R120). -/
def sampleFront (s : State) : State := countOp (advanceOp (accumOp (refOp s)))

/-- U4 to U7, which a closure runs (R120); the diagnostic record is presented between `SELECT`, whose results it copies,
and `REPORT` (log 11, DESIGN CHOICE). -/
def closure (s : State) : State := reportOp (presentDiag (selectOp (aggregateOp (closeOp s))))

/-- `SAMPLE x` after U3, in a fresh operation (R120). -/
def afterCount (x : F32) (s : State) : State := sampleFront (loadOperand x (startOperation s))

/-- The fixed micro-sequence of `SAMPLE x` (R120), one atomic step (R56): U4 to U7 run where U3 found zero. -/
def sampleOp (x : F32) (s : State) : State :=
  endOperation (if closing (afterCount x s) then closure (afterCount x s) else afterCount x s)

/-- The meaning of `INIT` (R186): "It emits no event". -/
def execInit (s : State) : Host.Outcome State Fault Refusal := .next (writeResetValues (startOperation s))

/-- The meaning of `SAMPLE x` (R120), refused before the first `INIT` (R231). -/
def execSample (x : F32) (s : State) : Host.Outcome State Fault Refusal :=
  match s.inited with
  | true => .next (sampleOp x s)
  | false => .refused .sampleBeforeInit

/-- The meaning of `IDLE` (R182): "Pseudocode: nothing"; the ports are idle. -/
def execIdle (s : State) : Host.Outcome State Fault Refusal := .next (startOperation s)

end Sys2Proof.Machine
end

