-- ==== Sys2Proof/Machine/Dispatch.lean ====
section
/-! DEFINITION. The meaning of every operation and micro-operation (spec/30_encoding.md rule R71). -/

namespace Sys2Proof.Machine

def exec (i : Instr) (s : State) : Host.Outcome State Fault Refusal :=
  match i with
  | .init => Sys2Proof.Machine.execInit s
  | .sample x => Sys2Proof.Machine.execSample x s
  | .idle => Sys2Proof.Machine.execIdle s
  | .ref => Sys2Proof.Machine.execRef s
  | .accum => Sys2Proof.Machine.execAccum s
  | .advance => Sys2Proof.Machine.execAdvance s
  | .count => Sys2Proof.Machine.execCount s
  | .close => Sys2Proof.Machine.execClose s
  | .aggregate => Sys2Proof.Machine.execAggregate s
  | .select => Sys2Proof.Machine.execSelect s
  | .report => Sys2Proof.Machine.execReport s

end Sys2Proof.Machine
end

