-- ==== Sys2Proof/Decode.lean ====
section
/-! DEFINITION. Decoding (spec/30_encoding.md rules R72, R73, R77) and, after it, the encoder. -/

namespace Sys2Proof

/-- Why a raw word is no instruction word. -/
inductive DecodeReject where
  /-- The word has a bit set beyond the width of its format (R72, R77): the port has no such wire. -/
  | bitBeyondFormat
  deriving DecidableEq, Repr

/-- TW bit 33 (R72). -/
def twInit (w : TransactionWord) : Bool := w.getLsbD 33

/-- TW bit 32 (R72). -/
def twValid (w : TransactionWord) : Bool := w.getLsbD 32

/-- TW bits 31:0 (R72): the sample, "with no conversion, no scaling and no clipping" (R74). -/
def twData (w : TransactionWord) : F32 := w.extractLsb' 0 32

/-- Decoding of TW (R73): total, `init` first (R206). -/
def decodeTW (w : TransactionWord) : Instr :=
  if twInit w then .init else if twValid w then .sample (twData w) else .idle

/-- The micro-step of a label (R77). -/
def decodeU (u : MicroLabel) : Instr :=
  if u = 0#3 then .ref
  else if u = 1#3 then .accum
  else if u = 2#3 then .advance
  else if u = 3#3 then .count
  else if u = 4#3 then .close
  else if u = 5#3 then .aggregate
  else if u = 6#3 then .select
  else .report

/-- Decoding of a raw word in a format, total: a word that has a bit beyond the format is refused by name. -/
def decodeRaw (f : Format) (w : Nat) : Except DecodeReject Instr :=
  match f.fits w with
  | false => .error .bitBeyondFormat
  | true =>
    match f with
    | .tw => .ok (decodeTW (BitVec.ofNat 34 w))
    | .u => .ok (decodeU (BitVec.ofNat 3 w))

/-- The format of a word of the opcode table by its length: a label fills one byte, a TW word five (log 18, DESIGN CHOICE). -/
def formatOfBits (nbits : Nat) : Format := if nbits ≤ 8 then .u else .tw

/-- The instruction the decoder reads from a word numbered as spec/opcode_table.json numbers it. -/
def decodeTableWord (nbits w : Nat) : Option Instr :=
  match decodeRaw (formatOfBits nbits) w with
  | .ok i => some i
  | .error _ => none

/-- The word of an instruction: TW with ignored fields 0, as R82 writes `INIT` and `IDLE`; or the label of R77. -/
def encode : Instr → Nat
  | .init => 0x200000000
  | .sample x => 0x100000000 + x.toNat
  | .idle => 0x000000000
  | .ref => 0
  | .accum => 1
  | .advance => 2
  | .count => 3
  | .close => 4
  | .aggregate => 5
  | .select => 6
  | .report => 7

/-- The input word the host presents for a host-selectable operation (R82). -/
def encodeTW (i : Instr) : TransactionWord := BitVec.ofNat 34 (encode i)

end Sys2Proof
end

