-- ==== Sys2Proof/Machine/Fetch.lean ====
section
/-! DEFINITION. Which operation the next step runs. There is no program counter and no instruction fetch
(spec/10_state.md rule R30): the operations come from the host, strictly in the order issued (spec/20_memory.md R60). -/

namespace Sys2Proof.Machine

/-- The operation of the next step, and the state with it taken. A micro-step selected by itself (log 8, DESIGN CHOICE) runs alone;
else the next input word is taken; with no word presented the operation is `IDLE`, "the caller not supplying a sample"
(R71, log 7, DESIGN CHOICE). -/
def fetch (s : State) : Instr × State :=
  match s.micro with
  | some u => (decodeU u, s.setMicro none)
  | none =>
    match s.input with
    | [] => (.idle, s)
    | w :: rest => (decodeTW w, s.setInput rest)

/-- The state in which the next step takes the given word of the opcode table first (logs 17, 18, DESIGN CHOICE). -/
def placeWord (s : State) (nbits w : Nat) : State :=
  match formatOfBits nbits with
  | .u => s.setMicro (some (BitVec.ofNat 3 w))
  | .tw => (s.setMicro none).setInput (BitVec.ofNat 34 w :: s.input)

end Sys2Proof.Machine
end

