-- ==== Sys2Proof/Machine/Step.lean ====
section
/-! DEFINITION. One step: one operation, taken and run whole (spec/20_memory.md rule R56). -/

namespace Sys2Proof.Machine

/-- One step of the machine (R17, R56). -/
def step (s : State) : Host.Outcome State Fault Refusal := exec (fetch s).1 (fetch s).2

/-- The state in which the very next step runs the instruction of the given word of the opcode table (log 17, DESIGN CHOICE). -/
def State.withFetchWord (s : State) (nbits w : Nat) : State := placeWord s nbits w

end Sys2Proof.Machine
end

