-- ==== Sys2Proof/Machine/Instances.lean ====
section
/-! DEFINITION. Several instances (spec/10_state.md rule R37, spec/20_memory.md rule R65, spec/60_exceptions.md R217):
"A system of several instances is the product of their machines". -/

namespace Sys2Proof.Machine

/-- One step of the n-th instance of a system: it alone changes, and each has its own configuration, state and ports.
`none` where there is no such instance, or where its step is refused. -/
def stepInstance (n : Nat) (system : List State) : Option (List State) :=
  match system[n]? with
  | none => none
  | some s =>
    match step s with
    | .next t => some (system.set n t)
    | _ => none

end Sys2Proof.Machine
end

