-- ==== Sys2Proof/Machine/Stimulus.lean ====
section
/-! DEFINITION. The host's side: the pseudo-operations of spec/30_encoding.md rule R83 and the presenting of operations. -/

namespace Sys2Proof.Machine

/-- `BUFFER v1 ... vn` (R83, R183): the samples in order; "zero-length buffers are a no-op" (R184). -/
def buffer (vs : List F32) : List Instr := vs.map Instr.sample

/-- `ZEROS n` (R83): n times `SAMPLE 0.0`. -/
def zeros (n : Nat) : List Instr := List.replicate n (.sample posZero)

/-- `REPEAT n { ... }` (R83): the body n times. -/
def repeatOps (n : Nat) (body : List Instr) : List Instr := (List.replicate n body).flatten

/-- `TEARDOWN` (R83, R187): nothing. -/
def teardown : List Instr := []

/-- The host will present these operations, after those it already will (R60, R82, log 7, DESIGN CHOICE). -/
def present (ops : List Instr) (s : State) : State := s.setInput (s.input ++ ops.map encodeTW)

end Sys2Proof.Machine
end

