-- ==== Sys2Proof/Safety.lean ====
section
/-! DEFINITION. The terms in which claims are stated: runs of operations and the events they emit (spec/00_scope.md R17),
the invariant of the machine between operations, the sums of a stretch of samples (spec/10_state.md R36). -/

namespace Sys2Proof

open Sys2Proof.Machine

/-- A run of operations, strictly in order (R60); it stops at the first operation that is given no meaning. -/
def runOps : List Instr → State → Host.Outcome State Fault Refusal
  | [], s => .next s
  | i :: rest, s =>
    match exec i s with
    | .next t => runOps rest t
    | .fault r => .fault r
    | .refused r => .refused r

/-- The events of a run, "each tagged with the index of the operation that emitted it" (R17), the first operation having
index `n`. -/
def eventTrace (n : Nat) : List Instr → State → List (Nat × EventWord)
  | [], _ => []
  | i :: rest, s =>
    match exec i s with
    | .next t => t.evt.toList.map (fun w => (n, w)) ++ eventTrace (n + 1) rest t
    | _ => []

/-- The event words of a run, without their tags. -/
def eventWords (ops : List Instr) (s : State) : List EventWord := (eventTrace 1 ops s).map Prod.snd

/-- The event words of the next `n` steps, in order (R190). -/
def stepEvents : Nat → State → List EventWord
  | 0, _ => []
  | n + 1, s =>
    match step s with
    | .next t => t.evt.toList ++ stepEvents n t
    | _ => []

/-- The host presents one buffer after another (R183), as the model's input queue holds it (log 7): the steps of its
samples, then, before the next buffer, the given number of steps with no word to take. -/
def runBuffers : List (List F32 × Nat) → State → Host.Outcome State Fault Refusal
  | [], s => .next s
  | (xs, pause) :: rest, s =>
    match Host.Core.run core (xs.length + pause) (present (buffer xs) s) with
    | .next t => runBuffers rest t
    | .fault r => .fault r
    | .refused r => .refused r

/-- The event words of the steps of `runBuffers`. -/
def bufferEvents : List (List F32 × Nat) → State → List EventWord
  | [], _ => []
  | (xs, pause) :: rest, s =>
    stepEvents (xs.length + pause) (present (buffer xs) s) ++
      match Host.Core.run core (xs.length + pause) (present (buffer xs) s) with
      | .next t => bufferEvents rest t
      | _ => []

/-- Whether the instruction is a `SAMPLE`. -/
def Instr.isSample : Instr → Bool
  | .sample _ => true
  | _ => false

/-- The number of closures in a run: the `SAMPLE` operations whose `COUNT` takes the countdown to zero (R125). -/
def closures : List Instr → State → Nat
  | [], _ => 0
  | i :: rest, s =>
    match exec i s with
    | .next t => (if i.isSample && s.cnt == 1#16 then 1 else 0) + closures rest t
    | _ => 0

/-- The samples among some operations, in order. -/
def samplesOf : List Instr → List F32
  | [] => []
  | .sample x :: rest => x :: samplesOf rest
  | _ :: rest => samplesOf rest

/-- A run of samples and idles: the operations after an `INIT` of which R36 speaks. -/
def isSampleOrIdle : Instr → Bool
  | .sample _ => true
  | .idle => true
  | _ => false

/-- Two states with the same configuration and the same tuple of R20; ports and the model's own fields may differ. -/
abbrev SameCore (s t : State) : Prop :=
  s.cfg = t.cfg ∧ s.ph = t.ph ∧ s.acc = t.acc ∧ s.win = t.win ∧ s.cnt = t.cnt ∧ s.last = t.last ∧ s.inited = t.inited

/-- The tuple of R20 has the values of R34, in the state's own configuration. -/
abbrev HasResetValues (s : State) : Prop :=
  (∀ k : Lane, s.ph[k] = 0x0000#16) ∧
  s.acc.e = 0x00000000#32 ∧ (∀ k : Lane, s.acc.i[k] = 0x00000000#32 ∧ s.acc.q[k] = 0x00000000#32) ∧
  (∀ b : Slot, s.win[b].e = 0x00000000#32) ∧
  (∀ (b : Slot) (k : Lane), s.win[b].i[k] = 0x00000000#32 ∧ s.win[b].q[k] = 0x00000000#32) ∧
  s.cnt.toNat = s.cfg.rate.val / 100 ∧ s.last = 0x000#10 ∧ s.inited = true

/-- No sum of a block record is `-0` (R123). -/
abbrev NoNegZero (b : Block) : Prop := b.e ≠ negZero ∧ ∀ k : Lane, b.i[k] ≠ negZero ∧ b.q[k] ≠ negZero

/-- What holds of the tuple of R20 between operations once `INIT` has run: `1 <= cnt <= BLOCKLEN` (R24), `last` a
well-formed decision word (R25), no sum `-0` (R123). -/
abbrev Live (s : State) : Prop :=
  1 ≤ s.cnt.toNat ∧ s.cnt.toNat ≤ blockLen s.cfg ∧ decWellFormed s.last = true ∧ NoNegZero s.acc ∧
    ∀ b : Slot, NoNegZero s.win[b]

/-- The event port carries only the word of the pair in `last` (R172, R173). -/
abbrev EventIsLast (s : State) : Prop := s.evt.all (fun w => isPair s.last && w == eventWord s.last) = true

/-- The invariant of the machine between operations: no micro-step is selected by itself (R71) and no transient survives
(R31); the ports hold only what R172 and R191 let them; and the tuple of R20 is as `Live` says unless it is the
unspecified one of power-on (R35). -/
abbrev Inv (s : State) : Prop :=
  s.micro = none ∧ s.tr = Transients.idle ∧ EventIsLast s ∧ (s.dr = none ∨ s.cfg.diag = true) ∧
    (s.inited = true → Live s)

/-- The sum of some terms in their order, from `+0`, each addition rounded (R123, R11). -/
def sumInOrder (terms : List F32) : F32 := terms.foldl fadd posZero

/-- The phase of lane `k` after `n` samples from `INIT` (R36): `(n * INC[k]) mod 65536`. -/
def phaseAfter (c : Cfg) (n : Nat) (k : Lane) : Phase := BitVec.ofNat 16 (n * c.inc[k].toNat)

/-- The block record of the samples `xs`, of which the first is number `start + 1` after `INIT` (R36, R107): the sums of
the squares and of the products with the references of each lane. -/
def blockOf (c : Cfg) (start : Nat) (xs : List F32) : Block :=
  ⟨sumInOrder (xs.map fun x => fmul x x),
    Vector.ofFn fun k => sumInOrder (xs.mapIdx fun n x => fmul (cosRef (phaseAfter c (start + n) k)) x),
    Vector.ofFn fun k => sumInOrder (xs.mapIdx fun n x => fmul (sinRef (phaseAfter c (start + n) k)) x)⟩

/-- The record in window slot `b` after the samples `xs` from `INIT` (R36): that of samples
`(c - b - 1) * BLOCKLEN + 1 .. (c - b) * BLOCKLEN`, `c` the number of closures, or `+0` in the slots not filled yet. -/
def slotAfter (c : Cfg) (xs : List F32) (b : Slot) : Block :=
  if b.val < xs.length / blockLen c then
    blockOf c ((xs.length / blockLen c - b.val - 1) * blockLen c)
      ((xs.drop ((xs.length / blockLen c - b.val - 1) * blockLen c)).take (blockLen c))
  else Block.zero

/-- Every sum of the record is a NaN (R237). -/
abbrev AllNaN (b : Block) : Prop := isNaN b.e = true ∧ ∀ k : Lane, isNaN b.i[k] = true ∧ isNaN b.q[k] = true

/-- The decision of a closure, as the word of R75, from the window it aggregates (R130, R150). -/
def closureDecision (c : Cfg) (win : Vector Block 4) : DecWord :=
  decWord (selectDecision (magnitudes win) (scaledEnergy c win)).1

/-- The events of `REPORT` applied in turn to a sequence of decisions of `SELECT` (R174), with no other micro-operation
between. -/
def reportSequence : List DecWord → State → List EventWord
  | [], _ => []
  | d :: rest, s =>
    match exec .report (s.setTr { s.tr with dec := d }) with
    | .next t => t.evt.toList ++ reportSequence rest t
    | _ => []

end Sys2Proof
end

