-- ==== Sys2Proof/Certificates/Slice0/Obligations.lean ====
section
/-! DEFINITION. The statements for the provers. Each docstring names the rules of spec/ it rests on; OBLIGATIONS.json
lists them. -/

open Sys2Proof Sys2Proof.Machine

/-! ### Words and decoding -/

/-- R73, R206: the decoding of TW as match and mask over the 34-bit word; it is total, and `init` has priority. -/
def Obligations.TransactionWordsDecodeByMaskAndMatch : Prop :=
  ∀ w : TransactionWord,
    (w &&& 0x200000000#34 = 0x200000000#34 → decodeTW w = .init) ∧
    (w &&& 0x300000000#34 = 0x100000000#34 → decodeTW w = .sample (w.extractLsb' 0 32)) ∧
    (w &&& 0x300000000#34 = 0x000000000#34 → decodeTW w = .idle) ∧
    (w &&& 0x200000000#34 = 0x200000000#34 ∨ w &&& 0x300000000#34 = 0x100000000#34 ∨
      w &&& 0x300000000#34 = 0x000000000#34)

/-- R72, R73, R77, R82: every instruction, with its operand at every value, is what the decoder reads from its word, the
word taken in whole bytes (log 18). -/
def Obligations.EncodedInstructionDecodesToItself : Prop :=
  ∀ i : Instr, i.wellFormed = true → decodeTableWord (8 * ((i.format.width + 7) / 8)) (encode i) = some i

/-- Words written out from the spec (vectors V8 of 95_test_vectors.md; the labels of R77) and what they stand for; that a
raw word of 8 bits is read as a label is the model's choice (log 18). -/
def Obligations.WrittenOutWordsDecode : Prop :=
  decodeTW 0x33F000000#34 = .init ∧ decodeTW 0x2FFFFFFFF#34 = .init ∧
    decodeTW 0x13F000000#34 = .sample 0x3F000000#32 ∧ decodeTW 0x17FC00000#34 = .sample 0x7FC00000#32 ∧
    decodeTW 0x03F000000#34 = .idle ∧
    [0, 1, 2, 3, 4, 5, 6, 7].map (decodeTableWord 8) =
      [some .ref, some .accum, some .advance, some .count, some .close, some .aggregate, some .select, some .report]

/-- The model's choice (log 18), R72, R77: a raw word of a format is read exactly when it has no bit beyond the format,
and is then an instruction of that format. -/
def Obligations.RawWordsAreReadExactlyWithinTheirFormat : Prop :=
  ∀ (f : Format) (w : Nat),
    (2 ^ f.width ≤ w → decodeRaw f w = .error .bitBeyondFormat) ∧
    (w < 2 ^ f.width → ∃ i : Instr, decodeRaw f w = .ok i ∧ i.format = f)

/-! ### Steps and runs of operations -/

/-- R56, R60, with the model's input queue (log 7) and micro-step selector (log 8): a step takes the next input word and is
the meaning of what it decodes to; with no word it is `IDLE`; a micro-step selected by itself runs alone. -/
def Obligations.StepRunsTheDecodedOperation : Prop :=
  ∀ s : State,
    (∀ (w : TransactionWord) (rest : List TransactionWord) (i : Instr), s.micro = none → s.input = w :: rest →
      decodeTW w = i → step s = exec i { s with input := rest }) ∧
    (s.micro = none → s.input = [] → step s = exec .idle s) ∧
    (∀ (u : MicroLabel) (i : Instr), s.micro = some u → decodeU u = i → step s = exec i { s with micro := none })

/-- The model's choice (log 17): the word placed by `withFetchWord` is the one the very next step runs. -/
def Obligations.PlacedWordRunsNext : Prop :=
  ∀ (s : State) (nbits w : Nat) (i : Instr), decodeTableWord nbits w = some i →
    step (s.withFetchWord nbits w) = exec i { s with micro := none }

/-- R17, R60, R82, with the model's input queue (log 7): the operations the host presents, as their input words, run
strictly in order, one a step, and leave exactly what running the operations leaves. -/
def Obligations.PresentedOperationsRunInOrder : Prop :=
  ∀ (ops : List Instr) (s : State), (∀ i ∈ ops, i.hostSelectable = true) → s.micro = none → s.input = [] →
    Host.Core.run core ops.length (present ops s) = runOps ops s

/-- R182, R60 (program P14): operations with `IDLE` anywhere between them leave the state, and emit the events, of the
operations without them. -/
def Obligations.IdlesInARunDoNotMatter : Prop :=
  ∀ (ops : List Instr) (s t : State), (∀ i ∈ ops, i.hostSelectable = true) → runOps ops s = .next t →
    ∃ u : State, runOps (ops.filter fun i => i != .idle) s = .next u ∧ SameCore t u ∧
      eventWords (ops.filter fun i => i != .idle) s = eventWords ops s

/-- R83, R182, R183, R184, with the model's input queue (log 7): buffers presented one after another, empty ones among
them, with any number of steps without a word after each, leave the tuple of R20 and emit the event words of all their
samples presented at once; and once `INIT` has run the machine answers a state. -/
def Obligations.BufferBoundariesDoNotMatter : Prop :=
  ∀ (parts : List (List F32 × Nat)) (s : State), s.micro = none → s.input = [] →
    (s.inited = true → ∃ t : State, runBuffers parts s = .next t) ∧
    ∀ t : State, runBuffers parts s = .next t →
      ∃ u : State, runBuffers [(parts.flatMap Prod.fst, 0)] s = .next u ∧ SameCore t u ∧
        bufferEvents parts s = bufferEvents [(parts.flatMap Prod.fst, 0)] s

/-! ### INIT and IDLE -/

/-- R34: what `INIT` writes, from any state, and that it leaves the configuration; no event is emitted (R186). What it does
to the model's own fields is the model's choice: no diagnostic record (log 11), idle transients (log 9), the words the host
has still to present (log 7) and the selected micro-step (log 8) kept. -/
def Obligations.InitWritesEveryElement : Prop :=
  ∀ s : State, ∃ t : State, exec .init s = .next t ∧ HasResetValues t ∧ t.cfg = s.cfg ∧
    t.evt = none ∧ t.dr = none ∧ t.tr = Transients.idle ∧ t.input = s.input ∧ t.micro = s.micro

/-- R57: "`INIT` is idempotent (two in a row leave the state of one)" and "`IDLE` is idempotent". -/
def Obligations.InitAndIdleAreIdempotent : Prop :=
  ∀ (i : Instr) (s t : State), i = .init ∨ i = .idle → exec i s = .next t → exec i t = .next t

/-- R230, R34: the state after reset, in the reference configuration (R5, log 3); it is what `INIT` makes of power-on, whose
unspecified elements are free (log 12). -/
def Obligations.ResetIsInitFromPowerOn : Prop :=
  HasResetValues State.reset ∧ State.reset.cfg.rate.val = 22050 ∧ State.reset.cnt = 220#16 ∧
    exec .init (State.powerOn State.reset.cfg) = .next State.reset

/-- R182: `IDLE`, the word with `init = 0`, `valid = 0`, keeps every element and emits nothing, in every state, before the
first `INIT` too; and so do n of them. That its event port is then empty, its diagnostic port too, and its transients idle is
the model's choice (logs 10, 11, 9). -/
def Obligations.IdleChangesNothing : Prop :=
  (∀ w : TransactionWord, w.getLsbD 33 = false → w.getLsbD 32 = false → decodeTW w = .idle) ∧
  ∀ s : State,
    (∃ t : State, exec .idle s = .next t ∧ t.evt = none ∧
      t = { s with evt := none, dr := none, tr := Transients.idle }) ∧
    ∀ n : Nat, ∃ t : State, runOps (List.replicate n .idle) s = .next t ∧ SameCore s t ∧
      eventTrace 1 (List.replicate n .idle) s = []

/-- R231: `SAMPLE` while `inited` is false is refused; `IDLE` and `INIT` are legal in that state. -/
def Obligations.SampleBeforeInitIsRefused : Prop :=
  ∀ s : State, s.inited = false →
    (∀ x : F32, exec (.sample x) s = .refused .sampleBeforeInit) ∧
    (∃ t : State, exec .idle s = .next t ∧ t.inited = false) ∧ (∃ t : State, exec .init s = .next t ∧ t.inited = true)

/-! ### The NCO bank -/

/-- R101, R105 (and the index of R102): `REF` supplies, for each lane, the cosine table at `p[15:6]` and at
`(p[15:6] + 768) mod 1024`, and writes no state. -/
def Obligations.RefSuppliesTheReferences : Prop :=
  decodeU 0#3 = .ref ∧ Instr.hostSelectable .ref = false ∧
  ∀ s : State, ∃ t : State, exec .ref s = .next t ∧
    (∀ k : Lane, t.tr.c[k] = cosRom (BitVec.ofNat 10 (s.ph[k].toNat / 64)) ∧
      t.tr.s[k] = cosRom (BitVec.ofNat 10 ((s.ph[k].toNat / 64 + 768) % 1024))) ∧
    t = { s with tr := { s.tr with c := t.tr.c, s := t.tr.s } }

/-- R106: `ADVANCE` adds to each phase its increment modulo 65536 and changes nothing else; it runs once in every
`SAMPLE`, whether or not the sample closes a block. -/
def Obligations.AdvanceAddsTheIncrements : Prop :=
  decodeU 2#3 = .advance ∧ Instr.hostSelectable .advance = false ∧
  ∀ s : State,
    (∃ t : State, exec .advance s = .next t ∧
      (∀ k : Lane, t.ph[k].toNat = (s.ph[k].toNat + s.cfg.inc[k].toNat) % 65536) ∧ t = { s with ph := t.ph }) ∧
    ∀ (x : F32) (t : State), exec (.sample x) s = .next t →
      ∀ k : Lane, t.ph[k].toNat = (s.ph[k].toNat + s.cfg.inc[k].toNat) % 65536

/-- R103: the exact values and the exact symmetries of the cosine table, and `-1 <= COSROM[idx] <= 1`. -/
def Obligations.CosineTableHasItsSymmetries : Prop :=
  cosRom 0#10 = 0x3F800000#32 ∧ cosRom 512#10 = 0xBF800000#32 ∧ cosRom 256#10 = posZero ∧ cosRom 768#10 = posZero ∧
    (∀ n : Fin 1024, n.val ≠ 0 → cosRom (BitVec.ofNat 10 (1024 - n.val)) = cosRom (BitVec.ofNat 10 n.val)) ∧
    (∀ n : Fin 513, n.val ≠ 256 →
      cosRom (BitVec.ofNat 10 (512 - n.val)) = cosRom (BitVec.ofNat 10 n.val) ^^^ negZero) ∧
    (∀ n : Fin 1024, isFinite (cosRom (BitVec.ofNat 10 n.val)) = true ∧
      f32Mag (cosRom (BitVec.ofNat 10 n.val)) ≤ f32Mag 0x3F800000#32)

/-! ### The accumulator -/

/-- R123 (pseudocode): `ACCUM` updates each of the 21 sums by one product and one addition, and changes nothing else. -/
def Obligations.AccumUpdatesEverySum : Prop :=
  decodeU 1#3 = .accum ∧ Instr.hostSelectable .accum = false ∧
  ∀ s : State, ∃ t : State, exec .accum s = .next t ∧
    t.acc.e = fadd s.acc.e (fmul s.tr.x s.tr.x) ∧
    (∀ k : Lane, t.acc.i[k] = fadd s.acc.i[k] (fmul s.tr.c[k] s.tr.x) ∧
      t.acc.q[k] = fadd s.acc.q[k] (fmul s.tr.s[k] s.tr.x)) ∧
    t = { s with acc := t.acc }

/-- R125, R127 (and the sums of R123): `COUNT` decrements, and changes nothing else; a `SAMPLE` goes on to the closure
exactly when the decremented countdown is zero (every slot of `win` shifted, the open block with this sample in slot 0, `acc`
cleared and `cnt` reloaded), else it ends with no event. -/
def Obligations.CountDecrementsAndDecidesTheClosure : Prop :=
  decodeU 3#3 = .count ∧ Instr.hostSelectable .count = false ∧
  ∀ s : State, 1 ≤ s.cnt.toNat →
    (∃ t : State, exec .count s = .next t ∧ t.cnt.toNat = s.cnt.toNat - 1 ∧ t = { s with cnt := t.cnt }) ∧
    ∀ (x : F32) (t : State), exec (.sample x) s = .next t →
      (s.cnt.toNat - 1 = 0 → t.cnt.toNat = t.cfg.rate.val / 100 ∧ t.acc = Block.zero ∧
        t.win[(3 : Slot)] = s.win[(2 : Slot)] ∧ t.win[(2 : Slot)] = s.win[(1 : Slot)] ∧
        t.win[(1 : Slot)] = s.win[(0 : Slot)] ∧ t.win[(0 : Slot)].e = fadd s.acc.e (fmul x x) ∧
        ∀ k : Lane, t.win[(0 : Slot)].i[k] = fadd s.acc.i[k] (fmul (cosRef s.ph[k]) x) ∧
          t.win[(0 : Slot)].q[k] = fadd s.acc.q[k] (fmul (sinRef s.ph[k]) x)) ∧
      (s.cnt.toNat - 1 ≠ 0 → t.cnt.toNat = s.cnt.toNat - 1 ∧ t.win = s.win ∧ t.last = s.last ∧ t.evt = none)

/-- R127: `CLOSE` moves the records by one slot, clears the open block, reloads the countdown, and touches nothing else; it runs in no
`SAMPLE` but a closure. -/
def Obligations.CloseShiftsTheWindow : Prop :=
  decodeU 4#3 = .close ∧ Instr.hostSelectable .close = false ∧
  (∀ (x : F32) (s t : State), exec (.sample x) s = .next t → s.cnt ≠ 1#16 → t.win = s.win) ∧
  ∀ s : State, ∃ t : State, exec .close s = .next t ∧
    t.win[(3 : Slot)] = s.win[(2 : Slot)] ∧ t.win[(2 : Slot)] = s.win[(1 : Slot)] ∧
    t.win[(1 : Slot)] = s.win[(0 : Slot)] ∧ t.win[(0 : Slot)] = s.acc ∧
    t.acc.e = 0x00000000#32 ∧ (∀ k : Lane, t.acc.i[k] = 0x00000000#32 ∧ t.acc.q[k] = 0x00000000#32) ∧
    t.cnt.toNat = s.cfg.rate.val / 100 ∧ t = { s with win := t.win, acc := t.acc, cnt := t.cnt }

/-- R130 (pseudocode): `AGGREGATE` sums the four slots from `+0`, newest first, squares and adds, and scales the energy; it
writes no state. -/
def Obligations.AggregateSumsTheWindow : Prop :=
  decodeU 5#3 = .aggregate ∧ Instr.hostSelectable .aggregate = false ∧
  ∀ s : State, ∃ t : State, exec .aggregate s = .next t ∧
    t.tr.totE = fmul (fadd (fadd (fadd (fadd posZero s.win[(0 : Slot)].e) s.win[(1 : Slot)].e) s.win[(2 : Slot)].e)
      s.win[(3 : Slot)].e) (cScale s.cfg) ∧
    (∀ k : Lane, ∃ sumI sumQ : F32,
      sumI = fadd (fadd (fadd (fadd posZero s.win[(0 : Slot)].i[k]) s.win[(1 : Slot)].i[k]) s.win[(2 : Slot)].i[k])
        s.win[(3 : Slot)].i[k] ∧
      sumQ = fadd (fadd (fadd (fadd posZero s.win[(0 : Slot)].q[k]) s.win[(1 : Slot)].q[k]) s.win[(2 : Slot)].q[k])
        s.win[(3 : Slot)].q[k] ∧
      t.tr.m[k] = fadd (fmul sumI sumI) (fmul sumQ sumQ)) ∧
    t = { s with tr := { s.tr with totE := t.tr.totE, m := t.tr.m } }

/-- R130 (corner cases): a magnitude is a NaN or has sign 0; so it is "never negative and never -0". -/
def Obligations.MagnitudesAreNeverNegative : Prop :=
  ∀ (s t : State) (k : Lane), exec .aggregate s = .next t → isNaN t.tr.m[k] = true ∨ f32Sign t.tr.m[k] = false

/-! ### SAMPLE -/

/-- R120, R123, R106, R125: a `SAMPLE` that does not close the block. Everything it changes, and that it completes. -/
def Obligations.SampleBetweenClosures : Prop :=
  ∀ (x : F32) (s : State), s.inited = true → 2 ≤ s.cnt.toNat →
    ∃ t : State, exec (.sample x) s = .next t ∧
      t.acc.e = fadd s.acc.e (fmul x x) ∧
      (∀ k : Lane, t.acc.i[k] = fadd s.acc.i[k] (fmul (cosRef s.ph[k]) x) ∧
        t.acc.q[k] = fadd s.acc.q[k] (fmul (sinRef s.ph[k]) x)) ∧
      (∀ k : Lane, t.ph[k].toNat = (s.ph[k].toNat + s.cfg.inc[k].toNat) % 65536) ∧
      t.cnt.toNat = s.cnt.toNat - 1 ∧
      t = { s with acc := t.acc, ph := t.ph, cnt := t.cnt, evt := none, dr := none, tr := Transients.idle }

/-- R120, R127, R170, R209: a `SAMPLE` that closes the block: the block with its last sample enters the window, the decision
is that of the shifted window, the event is that of the change of `last`. Everything it changes, and that it completes. -/
def Obligations.SampleAtAClosure : Prop :=
  ∀ (x : F32) (s : State), s.inited = true → s.cnt.toNat = 1 →
    ∃ t : State, exec (.sample x) s = .next t ∧
      t.win[(0 : Slot)].e = fadd s.acc.e (fmul x x) ∧
      (∀ k : Lane, t.win[(0 : Slot)].i[k] = fadd s.acc.i[k] (fmul (cosRef s.ph[k]) x) ∧
        t.win[(0 : Slot)].q[k] = fadd s.acc.q[k] (fmul (sinRef s.ph[k]) x)) ∧
      t.win[(1 : Slot)] = s.win[(0 : Slot)] ∧ t.win[(2 : Slot)] = s.win[(1 : Slot)] ∧
      t.win[(3 : Slot)] = s.win[(2 : Slot)] ∧ t.acc = Block.zero ∧ t.cnt.toNat = s.cfg.rate.val / 100 ∧
      (∀ k : Lane, t.ph[k].toNat = (s.ph[k].toNat + s.cfg.inc[k].toNat) % 65536) ∧
      t.last = closureDecision s.cfg t.win ∧
      t.evt = (if isPair t.last = true ∧ t.last ≠ s.last then some (t.last.extractLsb' 0 8) else none) ∧
      (t.dr.isSome = true ↔ s.cfg.diag = true) ∧
      t = { s with acc := Block.zero, ph := t.ph, cnt := t.cnt, win := t.win, last := t.last, evt := t.evt, dr := t.dr,
                   tr := Transients.idle }

/-- R120, R77: `SAMPLE` is U0 to U3 in order on its operand, and, where U3 left `cnt = 0`, U4 to U7 in order (the optional
diagnostic record being presented before `REPORT`, log 11). -/
def Obligations.SampleIsItsMicroSequence : Prop :=
  ∀ (x : F32) (s : State), s.inited = true →
    ∃ f : State, runOps [.ref, .accum, .advance, .count] (loadOperand x (startOperation s)) = .next f ∧
      (f.cnt ≠ 0#16 → exec (.sample x) s = .next (endOperation f)) ∧
      (f.cnt = 0#16 → ∃ g h : State, runOps [.close, .aggregate, .select] f = .next g ∧
        runOps [.report] (presentDiag g) = .next h ∧ exec (.sample x) s = .next (endOperation h))

/-- R176, R209, R211: only a `SAMPLE` that closes a block emits; the event is the pair that `last` then holds, different
from the one before, and the closure's state is in place: `cnt = BLOCKLEN`, `acc` zero. -/
def Obligations.EventsComeOnlyFromClosures : Prop :=
  ∀ (i : Instr) (s t : State) (w : EventWord), i.hostSelectable = true → exec i s = .next t → t.evt = some w →
    (∃ x : F32, i = .sample x) ∧ s.cnt = 1#16 ∧ isPair t.last = true ∧ t.last ≠ s.last ∧
      t.last.toNat = 0x200 + w.toNat ∧ t.cnt.toNat = t.cfg.rate.val / 100 ∧ t.acc = Block.zero

/-- R191, R84, R57: where the instance has the diagnostic record, a closure presents the scaled energy and the magnitudes of
the window, the decision and its reason, a NaN reading as "some NaN" (log 6); else there is no record. -/
def Obligations.ClosurePresentsItsDiagnosticRecord : Prop :=
  ∀ (x : F32) (s t : State), s.cnt = 1#16 → exec (.sample x) s = .next t →
    (s.cfg.diag = false → t.dr = none) ∧
    (s.cfg.diag = true → ∃ d : DiagRecord, t.dr = some d ∧
      d.totE = diagValue (scaledEnergy s.cfg t.win) ∧ (∀ k : Lane, d.m[k] = diagValue (magnitudes t.win)[k]) ∧
      d.dec = t.last ∧ d.reason = (selectDecision (magnitudes t.win) (scaledEnergy s.cfg t.win)).2)

/-- R57: the presence of the diagnostic record "changes no state and no event": operations of two instances that differ
only in having it leave the same tuple of R20 and the same event. -/
def Obligations.DiagnosticRecordChangesNothing : Prop :=
  ∀ (i : Instr) (s t u : State) (present : Bool),
    exec i s = .next t → exec i { s with cfg := { s.cfg with diag := present } } = .next u →
    SameCore { t with cfg := { t.cfg with diag := present } } u ∧ t.evt = u.evt ∧ t.tr = u.tr

/-- R31, R203: nothing a host operation leaves depends on the ports or the transients that earlier operations left. -/
def Obligations.PortsAndTransientsDoNotReachAnOperation : Prop :=
  ∀ (i : Instr) (s : State) (tr : Transients) (evt : Option EventWord) (dr : Option DiagRecord),
    i.hostSelectable = true → exec i { s with tr := tr, evt := evt, dr := dr } = exec i s

/-! ### The selector -/

/-- R151: the primary peak is the lowest lane among those of the largest positive value; NaNs are skipped; none if no
magnitude is positive. -/
def Obligations.PrimaryIsTheFirstLargestPositive : Prop :=
  ∀ m : Lanes F32,
    (∀ i : Lane, primary m = some i ↔
      fgt m[i] posZero = true ∧ (∀ k : Lane, fgt m[k] m[i] = false) ∧
        ∀ k : Lane, k < i → isNaN m[k] = true ∨ fgt m[i] m[k] = true) ∧
    (primary m = none ↔ ∀ k : Lane, fgt m[k] posZero = false)

/-- R152: the secondary peak is the same over the nine other lanes; it never exceeds the primary. -/
def Obligations.SecondaryIsTheFirstLargestOfTheOthers : Prop :=
  ∀ (m : Lanes F32) (i : Lane),
    (∀ j : Lane, secondary m i = some j ↔
      j ≠ i ∧ fgt m[j] posZero = true ∧ (∀ k : Lane, k ≠ i → fgt m[k] m[j] = false) ∧
        ∀ k : Lane, k < j → k ≠ i → isNaN m[k] = true ∨ fgt m[j] m[k] = true) ∧
    (secondary m i = none ↔ ∀ k : Lane, k ≠ i → fgt m[k] posZero = false) ∧
    (∀ j : Lane, primary m = some i → secondary m i = some j → fgt m[j] m[i] = false)

/-- R150, R155, R207 (with the tests of R153, R154): the five outcomes of `SELECT`, the first that applies, with their
words and reasons; it writes no state. -/
def Obligations.SelectTakesTheFirstOutcomeThatApplies : Prop :=
  decodeU 6#3 = .select ∧ Instr.hostSelectable .select = false ∧
  ∀ s : State, ∃ t : State, exec .select s = .next t ∧
    (primary s.tr.m = none → t.tr.dec = 0x000#10 ∧ t.tr.reason = .noPrimary) ∧
    (∀ i : Lane, primary s.tr.m = some i → secondary s.tr.m i = none →
      t.tr.dec = 0x000#10 ∧ t.tr.reason = .noSecondary) ∧
    (∀ i j : Lane, primary s.tr.m = some i → secondary s.tr.m i = some j →
      ((∃ k : Lane, k ≠ i ∧ k ≠ j ∧ fgt s.tr.m[k] (fmul s.tr.m[j] 0x3DCCCCCD#32) = true) →
        t.tr.dec = 0x100#10 ∧ t.tr.reason = .thirdPeak) ∧
      ((∀ k : Lane, k ≠ i → k ≠ j → fgt s.tr.m[k] (fmul s.tr.m[j] 0x3DCCCCCD#32) = false) →
        (fgt (fmul s.tr.totE 0x3ECCCCCD#32) (fadd s.tr.m[i] s.tr.m[j]) = true →
          t.tr.dec = 0x000#10 ∧ t.tr.reason = .signalFloor) ∧
        (fgt (fmul s.tr.totE 0x3ECCCCCD#32) (fadd s.tr.m[i] s.tr.m[j]) = false →
          t.tr.dec.toNat = 0x200 + 16 * min i.val j.val + max i.val j.val ∧ t.tr.reason = .pair))) ∧
    t = { s with tr := { s.tr with dec := t.tr.dec, reason := t.tr.reason } }

/-- R75, R157, R79: `SELECT` produces only well-formed decision words, and a Pair always has `lowIndex < highIndex <= 9`. -/
def Obligations.SelectProducesWellFormedWords : Prop :=
  ∀ s t : State, exec .select s = .next t →
    (t.tr.dec = 0x000#10 ∨ t.tr.dec = 0x100#10 ∨
      ∃ low high : Nat, low < high ∧ high ≤ 9 ∧ t.tr.dec.toNat = 0x200 + 16 * low + high ∧ t.tr.reason = .pair) ∧
    decWellFormed t.tr.dec = true

/-- R157 (D0's testable property T3): exchanging the values of the two peaks of a Pair does not change the decision. -/
def Obligations.StrongerPeakDoesNotShowInThePair : Prop :=
  ∀ (m swapped : Lanes F32) (totE : F32) (i j : Lane) (d : Decision),
    primary m = some i → secondary m i = some j → selectDecision m totE = (d, .pair) →
    swapped[i] = m[j] → swapped[j] = m[i] → (∀ k : Lane, k ≠ i → k ≠ j → swapped[k] = m[k]) →
    selectDecision swapped totE = (d, .pair)

/-! ### The reporter -/

/-- R170, R171, R173: `REPORT` emits `dec[7:0]` exactly when `dec` is a Pair different from `last`, then `last` is `dec`; it
writes nothing else, and runs in no `SAMPLE` but a closure. -/
def Obligations.ReportEmitsExactlyTheNewPairs : Prop :=
  decodeU 7#3 = .report ∧ Instr.hostSelectable .report = false ∧
  (∀ (x : F32) (s t : State), exec (.sample x) s = .next t → s.cnt ≠ 1#16 → t.last = s.last ∧ t.evt = none) ∧
  ∀ s : State, ∃ t : State, exec .report s = .next t ∧
    (s.tr.dec.extractLsb' 8 2 = 2#2 ∧ s.tr.dec ≠ s.last → t.evt = some (s.tr.dec.extractLsb' 0 8)) ∧
    (¬(s.tr.dec.extractLsb' 8 2 = 2#2 ∧ s.tr.dec ≠ s.last) → t.evt = none) ∧
    t.last = s.tr.dec ∧ t = { s with evt := t.evt, last := t.last }

/-- R76, R172: an event of `REPORT` is `16*lowIndex + highIndex` of the Pair, and a well-formed Pair gives
`0 <= EW[7:4] < EW[3:0] <= 9`. -/
def Obligations.EventWordPacksTheTwoIndices : Prop :=
  ∀ (s t : State) (w : EventWord), exec .report s = .next t → t.evt = some w →
    w.toNat = 16 * (decLow s.tr.dec).toNat + (decHigh s.tr.dec).toNat ∧
    (decWellFormed s.tr.dec = true → w.toNat / 16 < w.toNat % 16 ∧ w.toNat % 16 ≤ 9)

/-- R175, for `REPORT` applied to a sequence of decisions from any state: repeated identical Pair decisions emit exactly one report; a Pair repeated after another decision that is no Pair
emits two; and a run in which every Ambiguous is replaced by NoSignal emits the same events. -/
def Obligations.RepeatsAreSuppressedAndReemitted : Prop :=
  ∀ s : State,
    (∀ (d : DecWord) (n : Nat), isPair d = true → d ≠ s.last →
      reportSequence (List.replicate (n + 1) d) s = [eventWord d]) ∧
    (∀ d between : DecWord, isPair d = true → d ≠ s.last → isPair between = false →
      reportSequence [d, between, d] s = [eventWord d, eventWord d]) ∧
    (∀ ds : List DecWord,
      reportSequence (ds.map fun d => if d = 0x100#10 then 0x000#10 else d) s = reportSequence ds s)

/-- R174: "the first Pair after `INIT` always emits": whatever samples and idles follow an `INIT`, if `last` then holds a
Pair and no event has come before the operation that brought it, that operation emits it. -/
def Obligations.FirstPairAfterInitEmits : Prop :=
  ∀ (ops : List Instr) (x : F32) (s t u : State), (∀ i ∈ ops, isSampleOrIdle i = true) →
    runOps (.init :: ops) s = .next t → eventWords (.init :: ops) s = [] →
    exec (.sample x) t = .next u → isPair u.last = true → u.evt = some (eventWord u.last)

/-! ### Binary32 -/

/-- R10: `rnd32` of a magnitude `n * 2^(-149-k)`. It is the infinity exactly from half a place above the largest finite
value on; else no finite word is nearer, and of two equally near words it is the one with fraction bit 0 clear. -/
def Obligations.RoundingIsToNearestTiesToEven : Prop :=
  ∀ (neg : Bool) (n k : Nat),
    (rnd32 neg n k = (if neg then negInf else posInf) ↔ (2 ^ 25 - 1) * 2 ^ (252 + k) ≤ n) ∧
    (n < (2 ^ 25 - 1) * 2 ^ (252 + k) →
      isFinite (rnd32 neg n k) = true ∧ f32Sign (rnd32 neg n k) = neg ∧
      ∀ y : F32, isFinite y = true →
        ((f32Mag (rnd32 neg n k) * 2 ^ k : Int) - n).natAbs ≤ ((f32Mag y * 2 ^ k : Int) - n).natAbs ∧
        (((f32Mag (rnd32 neg n k) * 2 ^ k : Int) - n).natAbs = ((f32Mag y * 2 ^ k : Int) - n).natAbs →
          f32Mag y ≠ f32Mag (rnd32 neg n k) → (rnd32 neg n k).getLsbD 0 = false))

/-- R11: the cases of `fadd`, its commutativity (NaNs having one pattern, log 5), and that it is not associative. -/
def Obligations.FaddFollowsItsCases : Prop :=
  (∀ a b : F32,
    (isNaN a = true ∨ isNaN b = true → isNaN (fadd a b) = true) ∧
    (isInf a = true → isInf b = true → f32Sign a ≠ f32Sign b → isNaN (fadd a b) = true) ∧
    (isInf a = true → isInf b = true → f32Sign a = f32Sign b → fadd a b = a) ∧
    (isInf a = true → isFinite b = true → fadd a b = a) ∧
    (isFinite a = true → isFinite b = true → f32Val a + f32Val b ≠ 0 →
      fadd a b = rnd32 (decide (f32Val a + f32Val b < 0)) (f32Val a + f32Val b).natAbs 0) ∧
    (isFinite a = true → isFinite b = true → f32Val a + f32Val b = 0 →
      fadd a b = if a = negZero ∧ b = negZero then negZero else posZero) ∧
    fadd a b = fadd b a) ∧
  ∃ a b c : F32, fadd (fadd a b) c ≠ fadd a (fadd b c)

/-- R12: the cases of `fmul` and its commutativity (NaNs having one pattern, log 5). -/
def Obligations.FmulFollowsItsCases : Prop :=
  ∀ a b : F32,
    (isNaN a = true ∨ isNaN b = true → isNaN (fmul a b) = true) ∧
    (isZero a = true → isInf b = true → isNaN (fmul a b) = true) ∧
    (isInf a = true → isNaN b = false → isZero b = false →
      fmul a b = if f32Sign a = f32Sign b then posInf else negInf) ∧
    (isFinite a = true → isFinite b = true →
      fmul a b = rnd32 (f32Sign a != f32Sign b) (f32Mag a * f32Mag b) 149 ∧
      (f32Mag a * f32Mag b = 0 → fmul a b = if f32Sign a = f32Sign b then posZero else negZero)) ∧
    fmul a b = fmul b a

/-- R13: `fgt` is the order of the values, false on a NaN; the zeros are equal; infinities bound the finite values. -/
def Obligations.FgtIsTheOrderOfTheValues : Prop :=
  (∀ a b : F32, isNaN a = true ∨ isNaN b = true → fgt a b = false) ∧
  (∀ a b : F32, isZero a = true → isZero b = true → fgt a b = false) ∧
  (∀ b : F32, isFinite b = true → fgt posInf b = true ∧ fgt b negInf = true ∧ fgt b posInf = false) ∧
  fgt posInf negInf = true ∧ fgt posInf posInf = false ∧
  (∀ a b : F32, isFinite a = true → isFinite b = true → (fgt a b = true ↔ f32Val b < f32Val a)) ∧
  (∀ a b c : F32, fgt a b = true → fgt b c = true → fgt a c = true) ∧
  (∀ a b : F32, isNaN a = false → isNaN b = false → fgt a b = false → fgt b a = false →
    a = b ∨ (isZero a = true ∧ isZero b = true))

/-- R133: "`fadd(v, +0) = v` for every v that is not -0", NaNs having one pattern (log 5). -/
def Obligations.AddingPositiveZeroKeepsTheValue : Prop :=
  ∀ v : F32, v ≠ negZero → isNaN v = false → fadd v posZero = v

/-! ### Configuration -/

/-- R6: `BLOCKLEN` is the integer part of `SAMPLE_RATE / 100` and lies in 1..65535; a rate for which it would not is
refused. -/
def Obligations.BlockLengthIsLegal : Prop :=
  (∀ c : Cfg, 100 * blockLen c ≤ c.rate.val ∧ c.rate.val < 100 * (blockLen c + 1) ∧ 1 ≤ blockLen c ∧
    blockLen c ≤ 65535 ∧ (blockLenWord c).toNat = blockLen c) ∧
  ∀ (rate : Nat) (freq : Lanes Freq) (diag : Bool), rate / 100 < 1 ∨ 65535 < rate / 100 →
    configure rate freq diag = .error .sampleRate

/-- R7: `configure` makes an instance exactly for `0 <= FREQ[k] < SAMPLE_RATE`, with
`INC[k] = floor(FREQ[k] * 65536 / SAMPLE_RATE)`. That a frequency is a pair `num / den` of naturals, and that `den = 0` makes
no instance, is the model's choice (log 21). -/
def Obligations.IncrementsAreFloored : Prop :=
  ∀ (rate : Nat) (freq : Lanes Freq) (diag : Bool), 100 ≤ rate → rate ≤ 6553599 →
    ((∃ c : Cfg, configure rate freq diag = .ok c) ↔
      ∀ k : Lane, freq[k].den ≠ 0 ∧ freq[k].num < rate * freq[k].den) ∧
    ∀ c : Cfg, configure rate freq diag = .ok c →
      c.rate.val = rate ∧ c.diag = diag ∧
      ∀ k : Lane, c.inc[k].toNat * (rate * freq[k].den) ≤ freq[k].num * 65536 ∧
        freq[k].num * 65536 < (c.inc[k].toNat + 1) * (rate * freq[k].den)

/-- R8: `C_SCALE` is exactly `BLOCKNUM * BLOCKLEN * 0.5`, and `C_FLOOR`, `C_SIG` are the words nearest 0.1 and 0.4, with the
exact values that R8 gives. -/
def Obligations.DatapathConstantsAreExact : Prop :=
  (∀ c : Cfg, isFinite (cScale c) = true ∧ 2 * f32Val (cScale c) = 4 * blockLen c * 2 ^ 149) ∧
  cScale Config.reference = 0x43DC0000#32 ∧ cFloor = 0x3DCCCCCD#32 ∧ cSig = 0x3ECCCCCD#32 ∧
  f32Val cFloor * 10 ^ 27 = 100000001490116119384765625 * 2 ^ 149 ∧
  f32Val cSig * 10 ^ 25 = 4000000059604644775390625 * 2 ^ 149 ∧
  ∀ y : F32, isFinite y = true →
    (10 * f32Val cFloor - 2 ^ 149).natAbs ≤ (10 * f32Val y - 2 ^ 149).natAbs ∧
    (10 * f32Val cSig - 4 * 2 ^ 149).natAbs ≤ (10 * f32Val y - 4 * 2 ^ 149).natAbs

/-! ### Whole-machine rules -/

/-- R200: every operation completes for every operand once `INIT` has run, and so does every operation but `SAMPLE`
before. -/
def Obligations.EveryOperationCompletes : Prop :=
  ∀ (i : Instr) (s : State),
    (s.inited = true → ∃ t : State, exec i s = .next t ∧ t.inited = true) ∧
    ((∀ x : F32, i ≠ .sample x) → ∃ t : State, exec i s = .next t)

/-- R21 to R27, R108: which of the instructions other than `SAMPLE` and `INIT` write which element; no other changes it,
and none writes the configuration (log 1), or the model's own queue (log 7) and selector (log 8). -/
def Obligations.OnlyTheWritersChangeAnElement : Prop :=
  ∀ (i : Instr) (s t : State), exec i s = .next t → (∀ x : F32, i ≠ .sample x) → i ≠ .init →
    (i ≠ .advance → t.ph = s.ph) ∧ (i ≠ .accum → i ≠ .close → t.acc = s.acc) ∧ (i ≠ .close → t.win = s.win) ∧
    (i ≠ .count → i ≠ .close → t.cnt = s.cnt) ∧ (i ≠ .report → t.last = s.last) ∧ t.inited = s.inited ∧
    t.cfg = s.cfg ∧ t.input = s.input ∧ t.micro = s.micro

/-- R27, R63: no operation writes the configuration; nor does any take or select what runs next (logs 7, 8). -/
def Obligations.ConfigurationIsImmutable : Prop :=
  ∀ (s t : State), step s = .next t → t.cfg = s.cfg ∧ t.micro = none ∧ (s.inited = true → t.inited = true) ∧
    ∃ taken : List TransactionWord, s.input = taken ++ t.input ∧ taken.length ≤ 1

/-- R24, R25, R31, R71, R123, R172: every step keeps the invariant of the machine. -/
def Obligations.EveryStepKeepsTheInvariant : Prop :=
  ∀ s t : State, Inv s → step s = .next t → Inv t

/-- The invariant holds at reset (R34). -/
def Obligations.ResetMeetsTheInvariant : Prop := Inv State.reset

/-- R36, R107: after `INIT` and n `SAMPLE` operations, with any number of `IDLE`: the phases, the countdown, the number of
closures, the open block and the window (NaNs having one pattern, log 5). -/
def Obligations.StateAfterSamplesIsItsBlockSums : Prop :=
  ∀ (ops : List Instr) (s : State), (∀ i ∈ ops, isSampleOrIdle i = true) →
    ∃ t : State, runOps (.init :: ops) s = .next t ∧
      (∀ k : Lane, t.ph[k].toNat = (samplesOf ops).length * s.cfg.inc[k].toNat % 65536) ∧
      t.cnt.toNat = blockLen s.cfg - (samplesOf ops).length % blockLen s.cfg ∧
      closures (.init :: ops) s = (samplesOf ops).length / blockLen s.cfg ∧
      t.acc = blockOf s.cfg ((samplesOf ops).length / blockLen s.cfg * blockLen s.cfg)
        ((samplesOf ops).drop ((samplesOf ops).length / blockLen s.cfg * blockLen s.cfg)) ∧
      ∀ b : Slot, t.win[b] = slotAfter s.cfg (samplesOf ops) b

/-- R123 (corner cases): a sample of either zero leaves the value of every sum of the open block. -/
def Obligations.ZeroSampleLeavesTheSums : Prop :=
  ∀ (x : F32) (s : State), s.inited = true → 2 ≤ s.cnt.toNat → isZero x = true → NoNegZero s.acc →
    ∃ t : State, exec (.sample x) s = .next t ∧
      (if isNaN s.acc.e = true then isNaN t.acc.e = true else t.acc.e = s.acc.e) ∧
      ∀ k : Lane,
        (if isNaN s.acc.i[k] = true then isNaN t.acc.i[k] = true else t.acc.i[k] = s.acc.i[k]) ∧
        (if isNaN s.acc.q[k] = true then isNaN t.acc.q[k] = true else t.acc.q[k] = s.acc.q[k])

/-- R123, R237: a NaN sample makes all 21 sums of its block NaN, and they stay NaN whatever samples follow in the block. -/
def Obligations.NaNSamplePoisonsItsBlock : Prop :=
  ∀ (x : F32) (s : State), s.inited = true → (isNaN x = true ∨ AllNaN s.acc) →
    ∃ t : State, exec (.sample x) s = .next t ∧ (2 ≤ s.cnt.toNat → AllNaN t.acc) ∧
      (s.cnt.toNat = 1 → AllNaN t.win[(0 : Slot)])

/-- R237: while a NaN block is in the window, a closure decides NoSignal, for want of a primary peak, and emits nothing. -/
def Obligations.NaNBlockInTheWindowDecidesNoSignal : Prop :=
  ∀ (x : F32) (s t : State), s.cnt = 1#16 → exec (.sample x) s = .next t → (∃ b : Slot, AllNaN t.win[b]) →
    t.last = 0x000#10 ∧ t.evt = none ∧
      selectDecision (magnitudes t.win) (scaledEnergy s.cfg t.win) = (.noSignal, .noPrimary)

/-- Property T1 (95_test_vectors.md section 2) and program P1, from R34, R123, R130, R151, R171: silence from `INIT` on, of any length, is always decided NoSignal and never
reported. -/
def Obligations.SilenceIsNeverReported : Prop :=
  ∀ (n : Nat) (s : State), ∃ t : State, runOps (.init :: zeros n) s = .next t ∧ t.last = 0x000#10 ∧
    eventTrace 1 (.init :: zeros n) s = [] ∧ t.acc = Block.zero

/-- R37, R65, R217, instances stepping one at a time (log 19): one instance's step changes no other, and steps of two
different instances in either order give the same system. -/
def Obligations.InstancesDoNotInteract : Prop :=
  ∀ (a b : Nat) (system one two : List State), a ≠ b → stepInstance a system = some one →
    (one[b]? = system[b]?) ∧
    (stepInstance b one = some two → ∃ other : List State, stepInstance b system = some other ∧
      stepInstance a other = some two)
end

