-- ==== Sys2Proof/Laws/State.lean ====
section
/-! SUPPORT. What each field of the state is after each write of Machine/Ops.lean. -/

namespace Sys2Proof.Machine

section

variable (s : State) (v : Lanes Phase)

@[simp] theorem State.setPh_cfg : (s.setPh v).cfg = s.cfg := rfl
@[simp] theorem State.setPh_ph : (s.setPh v).ph = v := rfl
@[simp] theorem State.setPh_acc : (s.setPh v).acc = s.acc := rfl
@[simp] theorem State.setPh_win : (s.setPh v).win = s.win := rfl
@[simp] theorem State.setPh_cnt : (s.setPh v).cnt = s.cnt := rfl
@[simp] theorem State.setPh_last : (s.setPh v).last = s.last := rfl
@[simp] theorem State.setPh_inited : (s.setPh v).inited = s.inited := rfl
@[simp] theorem State.setPh_tr : (s.setPh v).tr = s.tr := rfl
@[simp] theorem State.setPh_evt : (s.setPh v).evt = s.evt := rfl
@[simp] theorem State.setPh_dr : (s.setPh v).dr = s.dr := rfl
@[simp] theorem State.setPh_input : (s.setPh v).input = s.input := rfl
@[simp] theorem State.setPh_micro : (s.setPh v).micro = s.micro := rfl

end

section

variable (s : State) (v : Block)

@[simp] theorem State.setAcc_cfg : (s.setAcc v).cfg = s.cfg := rfl
@[simp] theorem State.setAcc_ph : (s.setAcc v).ph = s.ph := rfl
@[simp] theorem State.setAcc_acc : (s.setAcc v).acc = v := rfl
@[simp] theorem State.setAcc_win : (s.setAcc v).win = s.win := rfl
@[simp] theorem State.setAcc_cnt : (s.setAcc v).cnt = s.cnt := rfl
@[simp] theorem State.setAcc_last : (s.setAcc v).last = s.last := rfl
@[simp] theorem State.setAcc_inited : (s.setAcc v).inited = s.inited := rfl
@[simp] theorem State.setAcc_tr : (s.setAcc v).tr = s.tr := rfl
@[simp] theorem State.setAcc_evt : (s.setAcc v).evt = s.evt := rfl
@[simp] theorem State.setAcc_dr : (s.setAcc v).dr = s.dr := rfl
@[simp] theorem State.setAcc_input : (s.setAcc v).input = s.input := rfl
@[simp] theorem State.setAcc_micro : (s.setAcc v).micro = s.micro := rfl

end

section

variable (s : State) (v : Vector Block 4)

@[simp] theorem State.setWin_cfg : (s.setWin v).cfg = s.cfg := rfl
@[simp] theorem State.setWin_ph : (s.setWin v).ph = s.ph := rfl
@[simp] theorem State.setWin_acc : (s.setWin v).acc = s.acc := rfl
@[simp] theorem State.setWin_win : (s.setWin v).win = v := rfl
@[simp] theorem State.setWin_cnt : (s.setWin v).cnt = s.cnt := rfl
@[simp] theorem State.setWin_last : (s.setWin v).last = s.last := rfl
@[simp] theorem State.setWin_inited : (s.setWin v).inited = s.inited := rfl
@[simp] theorem State.setWin_tr : (s.setWin v).tr = s.tr := rfl
@[simp] theorem State.setWin_evt : (s.setWin v).evt = s.evt := rfl
@[simp] theorem State.setWin_dr : (s.setWin v).dr = s.dr := rfl
@[simp] theorem State.setWin_input : (s.setWin v).input = s.input := rfl
@[simp] theorem State.setWin_micro : (s.setWin v).micro = s.micro := rfl

end

section

variable (s : State) (v : BitVec 16)

@[simp] theorem State.setCnt_cfg : (s.setCnt v).cfg = s.cfg := rfl
@[simp] theorem State.setCnt_ph : (s.setCnt v).ph = s.ph := rfl
@[simp] theorem State.setCnt_acc : (s.setCnt v).acc = s.acc := rfl
@[simp] theorem State.setCnt_win : (s.setCnt v).win = s.win := rfl
@[simp] theorem State.setCnt_cnt : (s.setCnt v).cnt = v := rfl
@[simp] theorem State.setCnt_last : (s.setCnt v).last = s.last := rfl
@[simp] theorem State.setCnt_inited : (s.setCnt v).inited = s.inited := rfl
@[simp] theorem State.setCnt_tr : (s.setCnt v).tr = s.tr := rfl
@[simp] theorem State.setCnt_evt : (s.setCnt v).evt = s.evt := rfl
@[simp] theorem State.setCnt_dr : (s.setCnt v).dr = s.dr := rfl
@[simp] theorem State.setCnt_input : (s.setCnt v).input = s.input := rfl
@[simp] theorem State.setCnt_micro : (s.setCnt v).micro = s.micro := rfl

end

section

variable (s : State) (v : DecWord)

@[simp] theorem State.setLast_cfg : (s.setLast v).cfg = s.cfg := rfl
@[simp] theorem State.setLast_ph : (s.setLast v).ph = s.ph := rfl
@[simp] theorem State.setLast_acc : (s.setLast v).acc = s.acc := rfl
@[simp] theorem State.setLast_win : (s.setLast v).win = s.win := rfl
@[simp] theorem State.setLast_cnt : (s.setLast v).cnt = s.cnt := rfl
@[simp] theorem State.setLast_last : (s.setLast v).last = v := rfl
@[simp] theorem State.setLast_inited : (s.setLast v).inited = s.inited := rfl
@[simp] theorem State.setLast_tr : (s.setLast v).tr = s.tr := rfl
@[simp] theorem State.setLast_evt : (s.setLast v).evt = s.evt := rfl
@[simp] theorem State.setLast_dr : (s.setLast v).dr = s.dr := rfl
@[simp] theorem State.setLast_input : (s.setLast v).input = s.input := rfl
@[simp] theorem State.setLast_micro : (s.setLast v).micro = s.micro := rfl

end

section

variable (s : State) (v : Bool)

@[simp] theorem State.setInited_cfg : (s.setInited v).cfg = s.cfg := rfl
@[simp] theorem State.setInited_ph : (s.setInited v).ph = s.ph := rfl
@[simp] theorem State.setInited_acc : (s.setInited v).acc = s.acc := rfl
@[simp] theorem State.setInited_win : (s.setInited v).win = s.win := rfl
@[simp] theorem State.setInited_cnt : (s.setInited v).cnt = s.cnt := rfl
@[simp] theorem State.setInited_last : (s.setInited v).last = s.last := rfl
@[simp] theorem State.setInited_inited : (s.setInited v).inited = v := rfl
@[simp] theorem State.setInited_tr : (s.setInited v).tr = s.tr := rfl
@[simp] theorem State.setInited_evt : (s.setInited v).evt = s.evt := rfl
@[simp] theorem State.setInited_dr : (s.setInited v).dr = s.dr := rfl
@[simp] theorem State.setInited_input : (s.setInited v).input = s.input := rfl
@[simp] theorem State.setInited_micro : (s.setInited v).micro = s.micro := rfl

end

section

variable (s : State) (v : Transients)

@[simp] theorem State.setTr_cfg : (s.setTr v).cfg = s.cfg := rfl
@[simp] theorem State.setTr_ph : (s.setTr v).ph = s.ph := rfl
@[simp] theorem State.setTr_acc : (s.setTr v).acc = s.acc := rfl
@[simp] theorem State.setTr_win : (s.setTr v).win = s.win := rfl
@[simp] theorem State.setTr_cnt : (s.setTr v).cnt = s.cnt := rfl
@[simp] theorem State.setTr_last : (s.setTr v).last = s.last := rfl
@[simp] theorem State.setTr_inited : (s.setTr v).inited = s.inited := rfl
@[simp] theorem State.setTr_tr : (s.setTr v).tr = v := rfl
@[simp] theorem State.setTr_evt : (s.setTr v).evt = s.evt := rfl
@[simp] theorem State.setTr_dr : (s.setTr v).dr = s.dr := rfl
@[simp] theorem State.setTr_input : (s.setTr v).input = s.input := rfl
@[simp] theorem State.setTr_micro : (s.setTr v).micro = s.micro := rfl

end

section

variable (s : State) (v : Option EventWord)

@[simp] theorem State.setEvt_cfg : (s.setEvt v).cfg = s.cfg := rfl
@[simp] theorem State.setEvt_ph : (s.setEvt v).ph = s.ph := rfl
@[simp] theorem State.setEvt_acc : (s.setEvt v).acc = s.acc := rfl
@[simp] theorem State.setEvt_win : (s.setEvt v).win = s.win := rfl
@[simp] theorem State.setEvt_cnt : (s.setEvt v).cnt = s.cnt := rfl
@[simp] theorem State.setEvt_last : (s.setEvt v).last = s.last := rfl
@[simp] theorem State.setEvt_inited : (s.setEvt v).inited = s.inited := rfl
@[simp] theorem State.setEvt_tr : (s.setEvt v).tr = s.tr := rfl
@[simp] theorem State.setEvt_evt : (s.setEvt v).evt = v := rfl
@[simp] theorem State.setEvt_dr : (s.setEvt v).dr = s.dr := rfl
@[simp] theorem State.setEvt_input : (s.setEvt v).input = s.input := rfl
@[simp] theorem State.setEvt_micro : (s.setEvt v).micro = s.micro := rfl

end

section

variable (s : State) (v : Option DiagRecord)

@[simp] theorem State.setDr_cfg : (s.setDr v).cfg = s.cfg := rfl
@[simp] theorem State.setDr_ph : (s.setDr v).ph = s.ph := rfl
@[simp] theorem State.setDr_acc : (s.setDr v).acc = s.acc := rfl
@[simp] theorem State.setDr_win : (s.setDr v).win = s.win := rfl
@[simp] theorem State.setDr_cnt : (s.setDr v).cnt = s.cnt := rfl
@[simp] theorem State.setDr_last : (s.setDr v).last = s.last := rfl
@[simp] theorem State.setDr_inited : (s.setDr v).inited = s.inited := rfl
@[simp] theorem State.setDr_tr : (s.setDr v).tr = s.tr := rfl
@[simp] theorem State.setDr_evt : (s.setDr v).evt = s.evt := rfl
@[simp] theorem State.setDr_dr : (s.setDr v).dr = v := rfl
@[simp] theorem State.setDr_input : (s.setDr v).input = s.input := rfl
@[simp] theorem State.setDr_micro : (s.setDr v).micro = s.micro := rfl

end

section

variable (s : State) (v : List TransactionWord)

@[simp] theorem State.setInput_cfg : (s.setInput v).cfg = s.cfg := rfl
@[simp] theorem State.setInput_ph : (s.setInput v).ph = s.ph := rfl
@[simp] theorem State.setInput_acc : (s.setInput v).acc = s.acc := rfl
@[simp] theorem State.setInput_win : (s.setInput v).win = s.win := rfl
@[simp] theorem State.setInput_cnt : (s.setInput v).cnt = s.cnt := rfl
@[simp] theorem State.setInput_last : (s.setInput v).last = s.last := rfl
@[simp] theorem State.setInput_inited : (s.setInput v).inited = s.inited := rfl
@[simp] theorem State.setInput_tr : (s.setInput v).tr = s.tr := rfl
@[simp] theorem State.setInput_evt : (s.setInput v).evt = s.evt := rfl
@[simp] theorem State.setInput_dr : (s.setInput v).dr = s.dr := rfl
@[simp] theorem State.setInput_input : (s.setInput v).input = v := rfl
@[simp] theorem State.setInput_micro : (s.setInput v).micro = s.micro := rfl

end

section

variable (s : State) (v : Option MicroLabel)

@[simp] theorem State.setMicro_cfg : (s.setMicro v).cfg = s.cfg := rfl
@[simp] theorem State.setMicro_ph : (s.setMicro v).ph = s.ph := rfl
@[simp] theorem State.setMicro_acc : (s.setMicro v).acc = s.acc := rfl
@[simp] theorem State.setMicro_win : (s.setMicro v).win = s.win := rfl
@[simp] theorem State.setMicro_cnt : (s.setMicro v).cnt = s.cnt := rfl
@[simp] theorem State.setMicro_last : (s.setMicro v).last = s.last := rfl
@[simp] theorem State.setMicro_inited : (s.setMicro v).inited = s.inited := rfl
@[simp] theorem State.setMicro_tr : (s.setMicro v).tr = s.tr := rfl
@[simp] theorem State.setMicro_evt : (s.setMicro v).evt = s.evt := rfl
@[simp] theorem State.setMicro_dr : (s.setMicro v).dr = s.dr := rfl
@[simp] theorem State.setMicro_input : (s.setMicro v).input = s.input := rfl
@[simp] theorem State.setMicro_micro : (s.setMicro v).micro = v := rfl

end

end Sys2Proof.Machine
end

