-- ==== Sys2Proof/Laws/Ops.lean ====
section
/-! SUPPORT. One lemma for each shared operation, saying once everything it does; the callers cite it and do not unfold the
operation. -/

namespace Sys2Proof.Machine

/-! ### The ends of an operation and the ports -/

theorem startOperation_eq (s : State) : startOperation s = { s with tr := Transients.idle, evt := none, dr := none } := rfl

theorem loadOperand_eq (x : F32) (s : State) : loadOperand x s = { s with tr := { s.tr with x := x } } := rfl

theorem endOperation_eq (s : State) : endOperation s = { s with tr := Transients.idle } := rfl

theorem closing_iff (s : State) : closing s = true ↔ s.cnt = 0#16 := by simp [closing]

theorem presentDiag_eq (s : State) :
    presentDiag s = { s with dr := if s.cfg.diag = true then some (diagRecord s.tr) else s.dr } := by
  by_cases h : s.cfg.diag = true <;> simp [presentDiag, h, State.setDr]

@[simp] theorem diagRecord_totE (t : Transients) : (diagRecord t).totE = diagValue t.totE := rfl

@[simp] theorem diagRecord_m (t : Transients) (k : Nat) (h : k < 10) : (diagRecord t).m[k] = diagValue t.m[k] := by
  simp [diagRecord]

@[simp] theorem diagRecord_dec (t : Transients) : (diagRecord t).dec = t.dec := rfl

@[simp] theorem diagRecord_reason (t : Transients) : (diagRecord t).reason = t.reason := rfl

/-! ### The micro-operations -/

@[simp] theorem cosRefs_lane (ph : Lanes Phase) (k : Nat) (h : k < 10) : (cosRefs ph)[k] = cosRef ph[k] := by simp [cosRefs]

@[simp] theorem sinRefs_lane (ph : Lanes Phase) (k : Nat) (h : k < 10) : (sinRefs ph)[k] = sinRef ph[k] := by simp [sinRefs]

@[simp] theorem advancedPhases_lane (inc ph : Lanes Phase) (k : Nat) (h : k < 10) :
    (advancedPhases inc ph)[k] = ph[k] + inc[k] := by simp [advancedPhases]

@[simp] theorem accumBlock_e (b : Block) (cosines sines : Lanes F32) (x : F32) :
    (accumBlock b cosines sines x).e = fadd b.e (fmul x x) := rfl

@[simp] theorem accumBlock_i (b : Block) (cosines sines : Lanes F32) (x : F32) (k : Nat) (h : k < 10) :
    (accumBlock b cosines sines x).i[k] = fadd b.i[k] (fmul cosines[k] x) := by simp [accumBlock, accumulate]

@[simp] theorem accumBlock_q (b : Block) (cosines sines : Lanes F32) (x : F32) (k : Nat) (h : k < 10) :
    (accumBlock b cosines sines x).q[k] = fadd b.q[k] (fmul sines[k] x) := by simp [accumBlock, accumulate]

@[simp] theorem magnitudes_lane (win : Vector Block 4) (k : Nat) (h : k < 10) : (magnitudes win)[k] = magnitude win ⟨k, h⟩ := by
  simp [magnitudes]

theorem windowSum_eq (element : Block → F32) (win : Vector Block 4) :
    windowSum element win =
      fadd (fadd (fadd (fadd posZero (element win[(0 : Slot)])) (element win[(1 : Slot)])) (element win[(2 : Slot)]))
        (element win[(3 : Slot)]) := rfl

@[simp] theorem pushBlock_newest (b : Block) (win : Vector Block 4) : (pushBlock b win)[0] = b := rfl

@[simp] theorem pushBlock_one (b : Block) (win : Vector Block 4) : (pushBlock b win)[1] = win[0] := rfl

@[simp] theorem pushBlock_two (b : Block) (win : Vector Block 4) : (pushBlock b win)[2] = win[1] := rfl

@[simp] theorem pushBlock_oldest (b : Block) (win : Vector Block 4) : (pushBlock b win)[3] = win[2] := rfl

@[simp] theorem zero_e : Block.zero.e = posZero := rfl

@[simp] theorem zero_i (k : Nat) (h : k < 10) : Block.zero.i[k] = posZero := by simp [Block.zero]

@[simp] theorem zero_q (k : Nat) (h : k < 10) : Block.zero.q[k] = posZero := by simp [Block.zero]

theorem refOp_eq (s : State) : refOp s = { s with tr := { s.tr with c := cosRefs s.ph, s := sinRefs s.ph } } := rfl

theorem accumOp_eq (s : State) : accumOp s = { s with acc := accumBlock s.acc s.tr.c s.tr.s s.tr.x } := rfl

theorem advanceOp_eq (s : State) : advanceOp s = { s with ph := advancedPhases s.cfg.inc s.ph } := rfl

theorem countOp_eq (s : State) : countOp s = { s with cnt := s.cnt - 1#16 } := rfl

theorem closeOp_eq (s : State) :
    closeOp s = { s with win := pushBlock s.acc s.win, acc := Block.zero, cnt := blockLenWord s.cfg } := rfl

theorem aggregateOp_eq (s : State) :
    aggregateOp s = { s with tr := { s.tr with totE := scaledEnergy s.cfg s.win, m := magnitudes s.win } } := rfl

theorem selectOp_eq (s : State) :
    selectOp s = { s with tr := { s.tr with
      dec := decWord (selectDecision s.tr.m s.tr.totE).1
      reason := (selectDecision s.tr.m s.tr.totE).2 } } := rfl

theorem reportOp_eq (s : State) : reportOp s = { s with evt := eventOf s.last s.tr.dec, last := s.tr.dec } := rfl

theorem writeResetValues_eq (s : State) :
    writeResetValues s = { s with
      ph := Vector.replicate 10 0#16, acc := Block.zero, win := Vector.replicate 4 Block.zero,
      cnt := blockLenWord s.cfg, last := 0x000#10, inited := true } := rfl

/-- When there is an event, and which. -/
theorem eventOf_eq_some {previous d : DecWord} {w : EventWord} :
    eventOf previous d = some w ↔ isPair d = true ∧ d ≠ previous ∧ eventWord d = w := by
  by_cases h : emits previous d = true
  · simp only [eventOf, h, if_true, Option.some.injEq]
    simp only [emits, Bool.and_eq_true, bne_iff_ne] at h
    simp [h]
  · have hn : ¬(isPair d = true ∧ d ≠ previous) := by simpa [emits] using h
    simp only [eventOf, h]
    simp only [Bool.false_eq_true, if_false, reduceCtorEq, false_iff]
    exact fun hw => hn ⟨hw.1, hw.2.1⟩

/-- When there is no event. -/
theorem eventOf_eq_none {previous d : DecWord} : eventOf previous d = none ↔ (isPair d = true → d = previous) := by
  cases hp : isPair d <;> simp [eventOf, emits, hp]

/-! ### SAMPLE -/

/-- The open block with the sample added, against the references of the phases before `ADVANCE`. -/
def sampledBlock (x : F32) (s : State) : Block := accumBlock s.acc (cosRefs s.ph) (sinRefs s.ph) x

@[simp] theorem sampledBlock_e (x : F32) (s : State) : (sampledBlock x s).e = fadd s.acc.e (fmul x x) := rfl

@[simp] theorem sampledBlock_i (x : F32) (s : State) (k : Nat) (h : k < 10) :
    (sampledBlock x s).i[k] = fadd s.acc.i[k] (fmul (cosRef s.ph[k]) x) := by simp [sampledBlock]

@[simp] theorem sampledBlock_q (x : F32) (s : State) (k : Nat) (h : k < 10) :
    (sampledBlock x s).q[k] = fadd s.acc.q[k] (fmul (sinRef s.ph[k]) x) := by simp [sampledBlock]

/-- The state of a `SAMPLE` after U0 to U3. -/
theorem afterCount_eq (x : F32) (s : State) :
    afterCount x s = { s with
      acc := sampledBlock x s, ph := advancedPhases s.cfg.inc s.ph, cnt := s.cnt - 1#16, evt := none, dr := none,
      tr := { Transients.idle with x := x, c := cosRefs s.ph, s := sinRefs s.ph } } := by
  simp only [afterCount, sampleFront, countOp_eq, advanceOp_eq, accumOp_eq, refOp_eq, loadOperand_eq,
    startOperation_eq, sampledBlock]

theorem afterCount_cnt (x : F32) (s : State) : (afterCount x s).cnt = s.cnt - 1#16 := by rw [afterCount_eq]

/-- `SAMPLE` that goes on: every field. -/
theorem sampleOp_open (x : F32) (s : State) (h : s.cnt - 1#16 ≠ 0#16) :
    sampleOp x s = { s with
      acc := sampledBlock x s, ph := advancedPhases s.cfg.inc s.ph, cnt := s.cnt - 1#16, evt := none, dr := none,
      tr := Transients.idle } := by
  have hc : ¬closing (afterCount x s) = true := by rw [closing_iff, afterCount_cnt]; exact h
  rw [sampleOp, if_neg hc]
  simp only [afterCount_eq, endOperation_eq]

/-- `SAMPLE` that closes the block: every field. -/
theorem sampleOp_closing (x : F32) (s : State) (h : s.cnt - 1#16 = 0#16) :
    sampleOp x s = { s with
      acc := Block.zero, ph := advancedPhases s.cfg.inc s.ph, cnt := blockLenWord s.cfg,
      win := pushBlock (sampledBlock x s) s.win,
      last := closureDecision s.cfg (pushBlock (sampledBlock x s) s.win),
      evt := eventOf s.last (closureDecision s.cfg (pushBlock (sampledBlock x s) s.win)),
      dr := (if s.cfg.diag = true then
        some ⟨diagValue (scaledEnergy s.cfg (pushBlock (sampledBlock x s) s.win)),
          Vector.ofFn fun k => diagValue (magnitudes (pushBlock (sampledBlock x s) s.win))[k],
          closureDecision s.cfg (pushBlock (sampledBlock x s) s.win),
          (selectDecision (magnitudes (pushBlock (sampledBlock x s) s.win))
            (scaledEnergy s.cfg (pushBlock (sampledBlock x s) s.win))).2⟩
        else none),
      tr := Transients.idle } := by
  have hc : closing (afterCount x s) = true := by rw [closing_iff, afterCount_cnt]; exact h
  rw [sampleOp, if_pos hc]
  simp only [closure, afterCount_eq, closeOp_eq, aggregateOp_eq, selectOp_eq, presentDiag_eq, reportOp_eq,
    endOperation_eq, diagRecord, closureDecision]

/-! ### What each instruction answers -/

theorem exec_init (s : State) : exec .init s = .next (writeResetValues (startOperation s)) := rfl

theorem exec_idle (s : State) : exec .idle s = .next (startOperation s) := rfl

theorem exec_sample (x : F32) (s : State) (h : s.inited = true) : exec (.sample x) s = .next (sampleOp x s) := by
  simp [exec, execSample, h]

theorem exec_sample_refused (x : F32) (s : State) (h : s.inited = false) :
    exec (.sample x) s = .refused .sampleBeforeInit := by
  simp [exec, execSample, h]

/-- Where `SAMPLE` answers a next state it was initialised, and the state is that of `sampleOp`. -/
theorem exec_sample_next {x : F32} {s t : State} (h : exec (.sample x) s = .next t) :
    s.inited = true ∧ t = sampleOp x s := by
  cases hi : s.inited with
  | false => rw [exec_sample_refused x s hi] at h; cases h
  | true => rw [exec_sample x s hi] at h; cases h; exact ⟨rfl, rfl⟩

/-- What no instruction changes, where it answers a next state. -/
theorem exec_keeps {i : Instr} {s t : State} (h : exec i s = .next t) :
    t.input = s.input ∧ t.micro = s.micro ∧ t.cfg = s.cfg ∧ (s.inited = true → t.inited = true) := by
  cases i
  case sample x =>
    obtain ⟨hi, rfl⟩ := exec_sample_next h
    by_cases hc : s.cnt - 1#16 = 0#16
    · simp [sampleOp_closing x s hc]
    · simp [sampleOp_open x s hc]
  all_goals (cases h; exact ⟨rfl, rfl, rfl, by first | exact id | exact fun _ => rfl⟩)

/-- An instruction does not look at the words the host has still to present. -/
theorem exec_setInput (i : Instr) (s : State) (words : List TransactionWord) :
    exec i (s.setInput words) =
      match exec i s with
      | .next t => .next (t.setInput words)
      | .fault r => .fault r
      | .refused r => .refused r := by
  cases i
  case sample x =>
    cases hi : s.inited with
    | false => rw [exec_sample_refused _ _ hi, exec_sample_refused _ _ (by simpa using hi)]
    | true =>
      rw [exec_sample _ _ hi, exec_sample _ _ (by simpa using hi)]
      by_cases hc : s.cnt - 1#16 = 0#16
      · rw [sampleOp_closing _ _ hc, sampleOp_closing _ _ (by simpa using hc)]; rfl
      · rw [sampleOp_open _ _ hc, sampleOp_open _ _ (by simpa using hc)]; rfl
  all_goals rfl

/-! ### Runs of steps -/

/-- A run of steps takes the first of them. -/
theorem core_run_next (n : Nat) {s t : State} (h : step s = .next t) :
    Host.Core.run core (n + 1) s = Host.Core.run core n t := by
  have hc : core.step s = .next t := h
  simp only [Host.Core.run, hc]

/-- The events of a run of steps begin with that of the first. -/
theorem stepEvents_next (n : Nat) {s t : State} (h : step s = .next t) :
    stepEvents (n + 1) s = t.evt.toList ++ stepEvents n t := by
  simp only [stepEvents, h]

/-! ### The integers -/

theorem cosIndex_eq (p : Phase) : cosIndex p = BitVec.ofNat 10 (p.toNat / 64) := by
  apply BitVec.eq_of_toNat_eq; simp [cosIndex, Nat.shiftRight_eq_div_pow]

/-- The decrement of a countdown that is not zero (R125). -/
theorem countdown_toNat (n : BitVec 16) (h : 1 ≤ n.toNat) : (n - 1#16).toNat = n.toNat - 1 := by bv_omega

/-- The countdown reaches zero from one, and from nowhere else (R125). -/
theorem countdown_eq_zero (n : BitVec 16) : n - 1#16 = 0#16 ↔ n.toNat = 1 := by
  constructor <;> intro h <;> bv_omega

end Sys2Proof.Machine
end

