-- ==== Sys2Proof/Laws/PerInstr.lean ====
section
/-! SUPPORT. Statements for all instructions, one lemma for each constructor: every instruction's word fits its format
(spec/30_encoding.md rules R72, R77). -/

namespace Sys2Proof.Laws.EncodeFits

/-- The word of the instruction has no bit beyond the width of its format. -/
def Statement (i : Instr) : Prop := encode i < 2 ^ i.format.width

theorem init : Statement .init := by simp [Statement, encode, Instr.format, Format.width]

theorem sample (x : F32) : Statement (.sample x) := by
  have h := x.isLt
  simp only [Statement, encode, Instr.format, Format.width]
  omega

theorem idle : Statement .idle := by simp [Statement, encode, Instr.format, Format.width]

theorem ref : Statement .ref := by simp [Statement, encode, Instr.format, Format.width]

theorem accum : Statement .accum := by simp [Statement, encode, Instr.format, Format.width]

theorem advance : Statement .advance := by simp [Statement, encode, Instr.format, Format.width]

theorem count : Statement .count := by simp [Statement, encode, Instr.format, Format.width]

theorem close : Statement .close := by simp [Statement, encode, Instr.format, Format.width]

theorem aggregate : Statement .aggregate := by simp [Statement, encode, Instr.format, Format.width]

theorem select : Statement .select := by simp [Statement, encode, Instr.format, Format.width]

theorem report : Statement .report := by simp [Statement, encode, Instr.format, Format.width]

end Sys2Proof.Laws.EncodeFits
end

