-- ==== Sys2Proof/Tests/Slice0.lean ====
section
/-! SUPPORT. Tests. The expected results are those of spec/95_test_vectors.md, whose vector each test names, or of the rule
it names; none comes from the model. -/

namespace Sys2Proof.Tests

open Sys2Proof.Machine

/-! ### Helpers -/

/-- TESTCFG-A (95_test_vectors.md section 1). -/
def cfgA : Cfg := ⟨⟨22050, by decide⟩, #v[1783, 2080, 2377, 2674, 2972, 3269, 3566, 3863, 4161, 4458], false⟩

/-- TESTCFG-B (95_test_vectors.md section 1), with the diagnostic record. -/
def cfgB : Cfg := ⟨⟨400, by decide⟩, #v[0, 4096, 8192, 12288, 16384, 20480, 24576, 28672, 32768, 36864], true⟩

/-- A configuration in which every sample closes a block, lanes 4 and 8 standing still and the others turning by half. -/
def cfgHalf : Cfg :=
  ⟨⟨100, by decide⟩, #v[0x8000, 0x8000, 0x8000, 0x8000, 0, 0x8000, 0x8000, 0x8000, 0, 0x8000], false⟩

/-- The state after `INIT` in a configuration (R34). -/
def start (c : Cfg) : State := { State.reset with cfg := c, cnt := blockLenWord c }

/-- A block record in which only the energy and the in-phase sums of lanes 4 and 8 are not zero. -/
def tonePair (e i4 i8 : F32) : Block := { Block.zero with e := e, i := #v[0, 0, 0, 0, i4, 0, 0, 0, i8, 0] }

/-- A block record of NaNs, of which no two sums need have the same pattern (R14). -/
def nanBlock : Block := ⟨0x7FC00000#32, Vector.replicate 10 0xFFC00001#32, Vector.replicate 10 0x7F800001#32⟩

/-- One sample before a closure, the window holding the pair of lanes 4 and 8 (program P2's block A, V31). -/
def beforePair : State :=
  { start cfgB with cnt := 1#16, win := Vector.replicate 4 (tonePair 0x41400000#32 0x40800000#32 0x40800000#32) }

/-- The start state with these magnitudes and this scaled energy left by `AGGREGATE`. -/
def withMagnitudes (m : Lanes F32) (totE : F32) : State :=
  (start cfgA).setTr { Transients.idle with m := m, totE := totE }

/-- The start state with this `last` and this decision left by `SELECT`. -/
def withDecision (last dec : DecWord) : State :=
  ((start cfgA).setLast last).setTr { Transients.idle with dec := dec }

/-- The outcome is a next state of which `p` holds. -/
def nextIs (o : Host.Outcome State Fault Refusal) (p : State → Bool) : Bool :=
  match o with
  | .next t => p t
  | _ => false

theorem exists_next {o : Host.Outcome State Fault Refusal} {p : State → Bool} (h : nextIs o p = true) :
    ∃ t : State, o = .next t ∧ p t = true := by
  cases o with
  | next t => exact ⟨t, rfl, h⟩
  | fault r => cases h
  | refused r => cases h

/-! ### WellFormed: an ill-formed term for each check, refused -/

theorem test_fits_refuses : Format.fits .tw (2 ^ 34) = false ∧ Format.fits .u 8 = false := by decide

theorem test_decodeRaw_refuses :
    decodeRaw .tw (2 ^ 34) = .error .bitBeyondFormat ∧ decodeRaw .u 8 = .error .bitBeyondFormat ∧
      decodeTableWord 8 8 = none ∧ decodeTableWord 40 0x43F000000 = none := ⟨rfl, rfl, rfl, rfl⟩

/-- V2. -/
theorem test_legalRate_refuses : legalRate 99 = false ∧ legalRate 6553600 = false := by decide

/-- R7. -/
theorem test_legalInc_refuses : legalInc 65536 = false := by decide

/-- V41, "Never produced". -/
theorem test_decWellFormed_refuses :
    [0x300#10, 0x3FF#10, 0x272#10, 0x222#10, 0x2A0#10, 0x101#10].all (fun d => !decWellFormed d) = true := by decide

/-- V2 and V3: rates 99 and 6553600, and a frequency equal to the rate, are refused. -/
theorem test_configure_refuses :
    configure 99 (Vector.replicate 10 ⟨0, 1⟩) false = .error .sampleRate ∧
      configure 6553600 (Vector.replicate 10 ⟨0, 1⟩) false = .error .sampleRate ∧
      configure 22050 (Vector.replicate 10 ⟨22050, 1⟩) false = .error .frequency := ⟨rfl, rfl, rfl⟩

/-! ### Decoding, on words written out from the encodings -/

/-- V8. -/
theorem test_decode_init :
    decodeTW 0x200000000#34 = .init ∧ decodeTW 0x33F000000#34 = .init ∧ decodeTW 0x2FFFFFFFF#34 = .init := by decide

/-- V8. -/
theorem test_decode_sample :
    decodeTW 0x13F000000#34 = .sample 0x3F000000#32 ∧ decodeTW 0x100000000#34 = .sample 0x00000000#32 ∧
      decodeTW 0x180000000#34 = .sample 0x80000000#32 ∧ decodeTW 0x17FC00000#34 = .sample 0x7FC00000#32 := by decide

/-- V8. -/
theorem test_decode_idle : decodeTW 0x000000000#34 = .idle ∧ decodeTW 0x03F000000#34 = .idle := by decide

/-- R77: U0 to U7. -/
theorem test_decode_micro :
    decodeU 0b000#3 = .ref ∧ decodeU 0b001#3 = .accum ∧ decodeU 0b010#3 = .advance ∧ decodeU 0b011#3 = .count ∧
      decodeU 0b100#3 = .close ∧ decodeU 0b101#3 = .aggregate ∧ decodeU 0b110#3 = .select ∧
      decodeU 0b111#3 = .report := by decide

/-- 95_test_vectors.md section 1: the words of the stimuli, `SAMPLE 3.0` and `SAMPLE -0.25` among them. -/
theorem test_encode :
    encodeTW .init = 0x200000000#34 ∧ encodeTW .idle = 0x000000000#34 ∧
      encodeTW (.sample 0x40400000#32) = 0x140400000#34 ∧ encodeTW (.sample 0xBE800000#32) = 0x1BE800000#34 := by decide

/-- V41: decision words and event words. -/
theorem test_decWord :
    decWord .noSignal = 0x000#10 ∧ decWord .ambiguous = 0x100#10 ∧ decWord (.pair 0 1) = 0x201#10 ∧
      decWord (.pair 2 7) = 0x227#10 ∧ decWord (.pair 8 9) = 0x289#10 ∧ eventWord 0x227#10 = 0x27#8 ∧
      eventWord 0x289#10 = 0x89#8 := by decide

/-! ### Configuration -/

/-- V2. -/
theorem test_blockLen : blockLen cfgA = 220 ∧ cScale cfgA = 0x43DC0000#32 ∧ cScale cfgB = 0x41000000#32 := by
  decide +kernel

/-- V2 at the ends of the range. -/
theorem test_cScale_ends :
    cScale ⟨⟨100, by decide⟩, cfgA.inc, false⟩ = 0x40000000#32 ∧
      cScale ⟨⟨6553599, by decide⟩, cfgA.inc, false⟩ = 0x47FFFF00#32 := by decide +kernel

/-- V3, and the increments of TESTCFG-A. -/
theorem test_configure :
    incOf 22050 ⟨800, 1⟩ = 2377 ∧ incOf 22050 ⟨22049, 1⟩ = 65533 ∧ incOf 400 ⟨100, 1⟩ = 16384 ∧
      configure 22050 #v[⟨600, 1⟩, ⟨700, 1⟩, ⟨800, 1⟩, ⟨900, 1⟩, ⟨1000, 1⟩, ⟨1100, 1⟩, ⟨1200, 1⟩, ⟨1300, 1⟩, ⟨1400, 1⟩,
        ⟨1500, 1⟩] false = .ok cfgA := ⟨rfl, rfl, rfl, rfl⟩

/-! ### Binary32 -/

/-- V5: ties, the carry, overflow at the tie. -/
theorem test_fadd_rounding :
    fadd 0x3F800000#32 0x33800000#32 = 0x3F800000#32 ∧ fadd 0x3F800001#32 0x33800000#32 = 0x3F800002#32 ∧
      fadd 0x3F800000#32 0x33800001#32 = 0x3F800001#32 ∧ fadd 0x7F7FFFFF#32 0x73000000#32 = 0x7F800000#32 ∧
      fadd 0x7F7FFFFF#32 0x72FFFFFF#32 = 0x7F7FFFFF#32 ∧ fadd 0x00000001#32 0x00000001#32 = 0x00000002#32 := by
  decide +kernel

/-- V5: infinities, NaNs, zeros. -/
theorem test_fadd_cases :
    isNaN (fadd posInf negInf) = true ∧ fadd posInf 0x3F800000#32 = posInf ∧
      isNaN (fadd 0x7FC00000#32 0x3F800000#32) = true ∧ fadd negZero posZero = posZero ∧
      fadd negZero negZero = negZero ∧ fadd 0x3F800000#32 0xBF800000#32 = posZero := by decide +kernel

/-- V6. -/
theorem test_fmul_rounding :
    fmul 0x3DCCCCCD#32 0x42C80000#32 = 0x41200000#32 ∧ fmul 0x3F3504F3#32 0x40400000#32 = 0x4007C3B6#32 ∧
      fmul 0x5F7FFFFF#32 0x5F7FFFFF#32 = 0x7F7FFFFE#32 ∧ fmul 0x00800000#32 0x3F000000#32 = 0x00400000#32 ∧
      fmul 0x00000003#32 0x3F000000#32 = 0x00000002#32 ∧ fmul 0x1A000000#32 0x1A000000#32 = 0x00000000#32 := by
  decide +kernel

/-- V6. -/
theorem test_fmul_cases :
    fmul 0x5F800000#32 0x5F800000#32 = posInf ∧ isNaN (fmul posZero posInf) = true ∧
      isNaN (fmul 0x7FC00000#32 posZero) = true ∧ fmul negZero 0x3F800000#32 = negZero ∧
      fmul 0xBF800000#32 posZero = negZero := by decide +kernel

/-- V7. -/
theorem test_fgt :
    fgt posZero negZero = false ∧ fgt posInf posInf = false ∧ fgt 0x7FC00000#32 posZero = false ∧
      fgt posZero 0x7FC00000#32 = false ∧ fgt 0x00000001#32 posZero = true ∧
      fgt 0x3F800001#32 0x3F800000#32 = true ∧ fgt 0xBF800000#32 posZero = false ∧
      fgt posInf 0x7F7FFFFF#32 = true := by decide +kernel

/-- V10, one entry of each quarter and the last. -/
theorem test_cosRom :
    cosRom 27#10 = 0x3F7C7EB0#32 ∧ cosRom 255#10 = 0x3BC90F88#32 ∧ cosRom 384#10 = 0xBF3504F3#32 ∧
      cosRom 704#10 = 0xBEC3EF15#32 ∧ cosRom 837#10 = 0x3ED25A09#32 ∧ cosRom 1023#10 = 0x3F7FFEC4#32 := by decide +kernel

/-! ### The operations of the host -/

/-- V9: two samples are forgotten. -/
theorem test_init_forgets :
    nextIs (exec .init { start cfgB with ph := Vector.replicate 10 0x2000#16, acc := nanBlock, cnt := 2#16,
                                         last := 0x248#10, evt := some 0x48#8 })
      (fun t => t == start cfgB) = true := by decide +kernel

/-- V9: `0x33F000000` is an `INIT`; the sample 0.5 is not accumulated. -/
theorem test_init_has_priority :
    nextIs (step { start cfgB with acc := nanBlock, input := [0x33F000000#34, 0x13F000000#34] })
      (fun t => t == { start cfgB with input := [0x13F000000#34] }) = true := by decide +kernel

/-- V20. -/
theorem test_sample_first :
    nextIs (exec (.sample 0x3F000000#32) (start cfgA)) (fun t =>
      t.acc == ⟨0x3E800000#32, Vector.replicate 10 0x3F000000#32, Vector.replicate 10 0x00000000#32⟩ &&
      t.ph == #v[1783, 2080, 2377, 2674, 2972, 3269, 3566, 3863, 4161, 4458] && t.cnt == 219#16 &&
      t.win == (start cfgA).win && t.last == 0x000#10 && t.evt == none) = true := by decide +kernel

/-- V31: the sample that closes block A; lanes 0, 4, 8. -/
theorem test_sample_closes :
    nextIs (exec (.sample 0xBF800000#32)
        { start cfgB with
          ph := #v[0x0000, 0x3000, 0x6000, 0x9000, 0xC000, 0xF000, 0x2000, 0x5000, 0x8000, 0xB000], cnt := 1#16
          acc := ⟨0x41300000#32, #v[0x3F800000, 0, 0, 0, 0x40800000, 0, 0, 0, 0x40400000, 0],
            #v[0, 0, 0, 0, 0xBF800000, 0, 0, 0, 0, 0]⟩ })
      (fun t => t.acc == Block.zero && t.cnt == 4#16 && t.win[0].e == 0x41400000#32 && t.win[0].i[0] == 0#32 &&
        t.win[0].i[4] == 0x40800000#32 && t.win[0].q[4] == 0#32 && t.win[0].i[8] == 0x40800000#32 &&
        t.win[1] == Block.zero && t.ph[9] == 0x4000#16) = true := by decide +kernel

/-- V25: `IDLE` keeps everything; its event port is idle (R190). -/
theorem test_idle : nextIs (exec .idle { beforePair with evt := some 0x48#8 }) (fun t => t == beforePair) = true := by
  decide +kernel

/-- V25, V26: at power-on `IDLE` is legal, `SAMPLE` is refused. -/
theorem test_power_on :
    exec .idle (State.powerOn cfgA) = .next (State.powerOn cfgA) ∧
      exec (.sample 0x3F000000#32) (State.powerOn cfgA) = .refused .sampleBeforeInit := ⟨rfl, rfl⟩

/-! ### The micro-operations -/

/-- V11. -/
theorem test_ref_cosines :
    nextIs (exec .ref { start cfgA with
        ph := #v[0x0000, 0x003F, 0x0040, 0x06F7, 0x116A, 0x2000, 0x4000, 0x6000, 0xE000, 0xFFFF] })
      (fun t => t.tr.c == #v[0x3F800000, 0x3F800000, 0x3F7FFEC4, 0x3F7C7EB0, 0x3F696591, 0x3F3504F3, 0x00000000,
        0xBF3504F3, 0x3F3504F3, 0x3F7FFEC4]) = true := by decide +kernel

/-- V11. -/
theorem test_ref_sines :
    nextIs (exec .ref { start cfgA with
        ph := #v[0x0000, 0x003F, 0x0040, 0x06F7, 0x116A, 0x2000, 0x4000, 0xC000, 0xE000, 0xFFFF] })
      (fun t => t.tr.s == #v[0x00000000, 0x00000000, 0x3BC90F88, 0x3E28DEFC, 0x3ED25A09, 0x3F3504F3, 0x3F800000,
        0xBF800000, 0xBF3504F3, 0xBBC90F88]) = true := by decide +kernel

/-- V21, lane 0: the sample -0.25. -/
theorem test_accum :
    nextIs (exec .accum { start cfgA with
        acc := ⟨0x3E800000#32, Vector.replicate 10 0x3F000000#32, Vector.replicate 10 0#32⟩
        tr := { Transients.idle with
          x := 0xBE800000#32, c := Vector.replicate 10 0x3F7C7EB0#32, s := Vector.replicate 10 0x3E28DEFC#32 } })
      (fun t => t.acc.e == 0x3EA00000#32 && t.acc.i[0] == 0x3E81C0A8#32 && t.acc.q[0] == 0xBD28DEFC#32) = true := by
  decide +kernel

/-- V27: a sample -0 keeps the accumulators +0. -/
theorem test_accum_negZero :
    nextIs (exec .accum { start cfgA with
        tr := { Transients.idle with x := negZero, c := Vector.replicate 10 0x3F800000#32 } })
      (fun t => t.acc == Block.zero) = true := by decide +kernel

/-- V12. -/
theorem test_advance :
    nextIs (exec .advance { start { cfgA with inc := #v[0x0002, 0x8000, 0, 1783, 0, 0, 0, 0, 0, 0] } with
        ph := #v[0xFFFF, 0x8000, 0x1234, 0xFC44, 0, 0, 0, 0, 0, 0xFFFF] })
      (fun t => t.ph == #v[0x0001, 0x0000, 0x1234, 0x033B, 0, 0, 0, 0, 0, 0xFFFF]) = true := by decide +kernel

/-- V30. -/
theorem test_count :
    nextIs (exec .count { start cfgA with cnt := 220#16 }) (fun t => t.cnt == 219#16 && !closing t) = true ∧
      nextIs (exec .count { start cfgA with cnt := 2#16 }) (fun t => t.cnt == 1#16 && !closing t) = true ∧
      nextIs (exec .count { start cfgA with cnt := 1#16 }) (fun t => t.cnt == 0#16 && closing t) = true := by
  decide +kernel

/-- V31: block B enters, block A ages. -/
theorem test_close :
    nextIs (exec .close { start cfgB with
        cnt := 0#16, acc := tonePair 0x40000000#32 0x40000000#32 0#32
        win := #v[tonePair 0x41400000#32 0x40800000#32 0x40800000#32, Block.zero, nanBlock, nanBlock] })
      (fun t => t.cnt == 4#16 && t.acc == Block.zero &&
        t.win == #v[tonePair 0x40000000#32 0x40000000#32 0#32, tonePair 0x41400000#32 0x40800000#32 0x40800000#32,
          Block.zero, nanBlock]) = true := by decide +kernel

/-- V32: lanes 0, 4, 8 and the energy at closure 4 of P2. -/
theorem test_aggregate :
    nextIs (exec .aggregate beforePair) (fun t =>
      t.tr.totE == 0x43C00000#32 && t.tr.m == #v[0, 0, 0, 0, 0x43800000, 0, 0, 0, 0x43800000, 0]) = true := by
  decide +kernel

/-- V33: at closure 1 only the newest slot is filled. -/
theorem test_aggregate_warm_up :
    nextIs (exec .aggregate { start cfgB with
        win := #v[tonePair 0x41400000#32 0x40800000#32 0x40800000#32, Block.zero, Block.zero, Block.zero] })
      (fun t => t.tr.totE == 0x42C00000#32 && t.tr.m[4] == 0x41800000#32 && t.tr.m[8] == 0x41800000#32) = true := by
  decide +kernel

/-- S3, S6, S12: a pair, a third peak, a signal below the floor. -/
theorem test_select :
    nextIs (exec .select (withMagnitudes #v[0, 0, 0x42C80000, 0, 0, 0, 0, 0x42A00000, 0, 0] 0x43340000#32))
        (fun t => t.tr.dec == 0x227#10 && t.tr.reason == .pair) = true ∧
      nextIs (exec .select (withMagnitudes #v[0, 0x41200001, 0x42C80000, 0, 0, 0, 0, 0x42C80000, 0, 0] 0x43480000#32))
        (fun t => t.tr.dec == 0x100#10 && t.tr.reason == .thirdPeak) = true ∧
      nextIs (exec .select (withMagnitudes #v[0, 0, 0x42C80000, 0, 0, 0, 0, 0x42C80000, 0, 0] 0x43FA8000#32))
        (fun t => t.tr.dec == 0x000#10 && t.tr.reason == .signalFloor) = true := by decide +kernel

/-- S2, S5, S13, S21: no second peak; equality with either threshold; the smaller index first. -/
theorem test_select_edges :
    nextIs (exec .select (withMagnitudes #v[0, 0, 0, 0x40A00000, 0, 0, 0, 0, 0, 0] 0x3F800000#32))
        (fun t => t.tr.dec == 0x000#10 && t.tr.reason == .noSecondary) = true ∧
      nextIs (exec .select (withMagnitudes #v[0, 0x41200000, 0x42C80000, 0, 0, 0, 0, 0x42C80000, 0, 0] 0x43480000#32))
        (fun t => t.tr.dec == 0x227#10) = true ∧
      nextIs (exec .select (withMagnitudes #v[0, 0, 0x42C80000, 0, 0, 0, 0, 0x42C80000, 0, 0] 0x43FA0000#32))
        (fun t => t.tr.dec == 0x227#10) = true ∧
      nextIs (exec .select (withMagnitudes #v[0x41100000, 0, 0, 0, 0, 0, 0, 0, 0, 0x42B40000] 0x42C60000#32))
        (fun t => t.tr.dec == 0x209#10) = true := by decide +kernel

/-- V40. -/
theorem test_report_emits :
    nextIs (exec .report (withDecision 0x000#10 0x248#10)) (fun t => t.evt == some 0x48#8 && t.last == 0x248#10) = true ∧
      nextIs (exec .report (withDecision 0x248#10 0x208#10)) (fun t => t.evt == some 0x08#8 && t.last == 0x208#10) = true ∧
      nextIs (exec .report (withDecision 0x100#10 0x248#10)) (fun t => t.evt == some 0x48#8) = true := by decide +kernel

/-- V40. -/
theorem test_report_is_silent :
    nextIs (exec .report (withDecision 0x248#10 0x248#10)) (fun t => t.evt == none && t.last == 0x248#10) = true ∧
      nextIs (exec .report (withDecision 0x248#10 0x000#10)) (fun t => t.evt == none && t.last == 0x000#10) = true ∧
      nextIs (exec .report (withDecision 0x000#10 0x100#10)) (fun t => t.evt == none && t.last == 0x100#10) = true := by
  decide +kernel

/-- R84: the reason codes. -/
theorem test_reasonCode :
    [Reason.pair, .noPrimary, .noSecondary, .thirdPeak, .signalFloor].map reasonCode = [0#3, 1#3, 2#3, 3#3, 4#3] := by
  decide

/-- The very next step runs the placed word: a `SAMPLE` and a label, from reset. -/
theorem test_withFetchWord :
    nextIs (step ((start cfgA).withFetchWord 40 0x13F000000)) (fun t => t.cnt == 219#16 && t.input == []) = true ∧
      nextIs (step ((start cfgA).withFetchWord 8 3)) (fun t => t.cnt == 219#16 && t.micro == none) = true := by
  decide +kernel

/-! ### Witnesses: for each statement with hypotheses, a state and operands that meet them, at the ends of each range -/

/-- The operand of every sample of the witnesses, 1.0. -/
abbrev one : F32 := 0x3F800000#32

theorem witness_TransactionWordsDecodeByMaskAndMatch :
    0x33F000000#34 &&& 0x200000000#34 = 0x200000000#34 ∧ 0x1FFFFFFFF#34 &&& 0x300000000#34 = 0x100000000#34 ∧
      0x0FFFFFFFF#34 &&& 0x300000000#34 = 0x000000000#34 := by decide

theorem witness_EncodedInstructionDecodesToItself :
    Instr.wellFormed (.sample 0xFFFFFFFF#32) = true ∧ Instr.wellFormed .report = true := by decide

theorem witness_RawWordsAreReadExactlyWithinTheirFormat :
    2 ^ Format.tw.width ≤ 2 ^ 34 ∧ 2 ^ 34 - 1 < 2 ^ Format.tw.width ∧ 2 ^ Format.u.width ≤ 8 ∧
      7 < 2 ^ Format.u.width := by decide

theorem witness_StepRunsTheDecodedOperation :
    ((start cfgB).micro = none ∧ ((start cfgB).setInput [0x13F800000#34]).input = [0x13F800000#34] ∧
        decodeTW 0x13F800000#34 = .sample one) ∧
      (start cfgB).input = [] ∧ ((start cfgB).setMicro (some 7#3)).micro = some 7#3 ∧ decodeU 7#3 = .report :=
  ⟨⟨rfl, rfl, by decide⟩, rfl, rfl, by decide⟩

theorem witness_PlacedWordRunsNext :
    decodeTableWord 40 0x1FFFFFFFF = some (.sample 0xFFFFFFFF#32) ∧ decodeTableWord 8 7 = some .report := ⟨rfl, rfl⟩

theorem witness_PresentedOperationsRunInOrder :
    (∀ i ∈ [Instr.init, .sample one, .idle], i.hostSelectable = true) ∧ (start cfgB).micro = none ∧
      (start cfgB).input = [] := ⟨by decide, rfl, rfl⟩

theorem witness_IdlesInARunDoNotMatter :
    (∀ i ∈ [Instr.idle, .init, .idle, .sample one, .idle], i.hostSelectable = true) ∧
      ∃ t : State, runOps [.idle, .init, .idle, .sample one, .idle] (State.powerOn cfgB) = .next t :=
  ⟨by decide, _, rfl⟩

theorem witness_BufferBoundariesDoNotMatter :
    (start cfgB).micro = none ∧ (start cfgB).input = [] ∧ (start cfgB).inited = true ∧
      ∃ t : State, runBuffers [([one], 1), ([], 0), ([one], 0)] (start cfgB) = .next t :=
  ⟨rfl, rfl, rfl, _, rfl⟩

theorem witness_IdleChangesNothing :
    (0x000000000#34).getLsbD 33 = false ∧ (0x000000000#34).getLsbD 32 = false ∧ (0x0FFFFFFFF#34).getLsbD 33 = false ∧
      (0x0FFFFFFFF#34).getLsbD 32 = false := by decide

theorem witness_InitAndIdleAreIdempotent :
    (∃ t : State, exec .init (State.powerOn cfgB) = .next t) ∧ ∃ t : State, exec .idle beforePair = .next t :=
  ⟨⟨_, rfl⟩, _, rfl⟩

theorem witness_SampleBeforeInitIsRefused : (State.powerOn cfgB).inited = false := rfl

theorem witness_AdvanceAddsTheIncrements :
    (∃ t : State, exec (.sample one) (start cfgB) = .next t) ∧ ∃ t : State, exec (.sample one) beforePair = .next t :=
  ⟨⟨_, rfl⟩, _, rfl⟩

theorem witness_CosineTableHasItsSymmetries :
    (1 : Fin 1024).val ≠ 0 ∧ (1023 : Fin 1024).val ≠ 0 ∧ (0 : Fin 513).val ≠ 256 ∧ (512 : Fin 513).val ≠ 256 := by decide

theorem witness_CountDecrementsAndDecidesTheClosure :
    (1 ≤ beforePair.cnt.toNat ∧ beforePair.cnt.toNat - 1 = 0 ∧ ∃ t : State, exec (.sample one) beforePair = .next t) ∧
      (1 ≤ (beforePair.setCnt 2#16).cnt.toNat ∧ (beforePair.setCnt 2#16).cnt.toNat - 1 ≠ 0 ∧
        ∃ t : State, exec (.sample one) (beforePair.setCnt 2#16) = .next t) ∧
      1 ≤ (beforePair.setCnt 0xFFFF#16).cnt.toNat :=
  ⟨⟨by decide, by decide, _, rfl⟩, ⟨by decide, by decide, _, rfl⟩, by decide⟩

theorem witness_CloseShiftsTheWindow :
    (∃ t : State, exec (.sample one) (start cfgB) = .next t) ∧ (start cfgB).cnt ≠ 1#16 ∧
      (∃ t : State, exec (.sample one) (beforePair.setCnt 2#16) = .next t) ∧ (beforePair.setCnt 2#16).cnt ≠ 1#16 :=
  ⟨⟨_, rfl⟩, by decide, ⟨_, rfl⟩, by decide⟩

theorem witness_MagnitudesAreNeverNegative : ∃ t : State, exec .aggregate beforePair = .next t := ⟨_, rfl⟩

theorem witness_SampleBetweenClosures :
    (beforePair.setCnt 2#16).inited = true ∧ 2 ≤ (beforePair.setCnt 2#16).cnt.toNat ∧
      2 ≤ (beforePair.setCnt 0xFFFF#16).cnt.toNat := by decide

theorem witness_SampleAtAClosure : beforePair.inited = true ∧ beforePair.cnt.toNat = 1 := by decide

theorem witness_SampleIsItsMicroSequence :
    (start cfgB).inited = true ∧ beforePair.inited = true ∧
      (∃ f : State, runOps [.ref, .accum, .advance, .count] (loadOperand one (startOperation (start cfgB))) = .next f ∧
        decide (f.cnt ≠ 0#16) = true) ∧
      ∃ f : State, runOps [.ref, .accum, .advance, .count] (loadOperand one (startOperation beforePair)) = .next f ∧
        decide (f.cnt = 0#16) = true := ⟨rfl, rfl, ⟨_, rfl, by decide⟩, _, rfl, by decide⟩

theorem witness_EventsComeOnlyFromClosures :
    Instr.hostSelectable (.sample posZero) = true ∧
      ∃ t : State, exec (.sample posZero) beforePair = .next t ∧ (t.evt == some 0x48#8) = true :=
  ⟨rfl, exists_next (by decide +kernel)⟩

theorem witness_ClosurePresentsItsDiagnosticRecord :
    (beforePair.cnt = 1#16 ∧ beforePair.cfg.diag = true ∧ ∃ t : State, exec (.sample one) beforePair = .next t) ∧
      ((start cfgHalf).cnt = 1#16 ∧ (start cfgHalf).cfg.diag = false ∧
        ∃ t : State, exec (.sample one) (start cfgHalf) = .next t) :=
  ⟨⟨rfl, rfl, _, rfl⟩, rfl, rfl, _, rfl⟩

theorem witness_DiagnosticRecordChangesNothing :
    (∃ t : State, exec (.sample one) beforePair = .next t) ∧
      ∃ u : State, exec (.sample one) { beforePair with cfg := { beforePair.cfg with diag := false } } = .next u :=
  ⟨⟨_, rfl⟩, _, rfl⟩

theorem witness_PortsAndTransientsDoNotReachAnOperation :
    Instr.hostSelectable (.sample one) = true ∧ Instr.hostSelectable .init = true ∧ Instr.hostSelectable .idle = true := by
  decide

/-- S4: lane 7 is the primary peak. -/
def magnitudesS4 : Lanes F32 := #v[0, 0, 0x42A00000, 0, 0, 0, 0, 0x42C80000, 0, 0]

theorem witness_PrimaryIsTheFirstLargestPositive :
    primary magnitudesS4 = some 7 ∧ primary (Vector.replicate 10 posZero) = none ∧
      (fgt magnitudesS4[(7 : Lane)] posZero = true ∧ (∀ k : Lane, fgt magnitudesS4[k] magnitudesS4[(7 : Lane)] = false) ∧
        ∀ k : Lane, k < 7 → isNaN magnitudesS4[k] = true ∨ fgt magnitudesS4[(7 : Lane)] magnitudesS4[k] = true) := by
  decide +kernel

theorem witness_SecondaryIsTheFirstLargestOfTheOthers :
    primary magnitudesS4 = some 7 ∧ secondary magnitudesS4 7 = some 2 ∧
      secondary (Vector.replicate 10 posZero) 7 = none := by decide +kernel

/-- S1, S2, S6, S12, S3 in turn: each of the five outcomes. -/
theorem witness_SelectTakesTheFirstOutcomeThatApplies :
    primary (Vector.replicate 10 posZero) = none ∧
      (primary #v[0, 0, 0, 0x40A00000, 0, 0, 0, 0, 0, 0] = some 3 ∧
        secondary #v[0, 0, 0, 0x40A00000, 0, 0, 0, 0, 0, 0] 3 = none) ∧
      (primary #v[0, 0x41200001, 0x42C80000, 0, 0, 0, 0, 0x42C80000, 0, 0] = some 2 ∧
        secondary #v[0, 0x41200001, 0x42C80000, 0, 0, 0, 0, 0x42C80000, 0, 0] 2 = some 7 ∧
        fgt 0x41200001#32 (fmul 0x42C80000#32 0x3DCCCCCD#32) = true) ∧
      (primary magnitudesS4 = some 7 ∧ secondary magnitudesS4 7 = some 2 ∧
        (∀ k : Lane, k ≠ 7 → k ≠ 2 → fgt magnitudesS4[k] (fmul magnitudesS4[(2 : Lane)] 0x3DCCCCCD#32) = false) ∧
        fgt (fmul 0x43FA8000#32 0x3ECCCCCD#32) (fadd magnitudesS4[(7 : Lane)] magnitudesS4[(2 : Lane)]) = true ∧
        fgt (fmul 0x43340000#32 0x3ECCCCCD#32) (fadd magnitudesS4[(7 : Lane)] magnitudesS4[(2 : Lane)]) = false) := by
  decide +kernel

theorem witness_SelectProducesWellFormedWords : ∃ t : State, exec .select (start cfgB) = .next t := ⟨_, rfl⟩

/-- S4, and S3 as the exchange of its two peaks. -/
theorem witness_StrongerPeakDoesNotShowInThePair :
    primary magnitudesS4 = some 7 ∧ secondary magnitudesS4 7 = some 2 ∧
      selectDecision magnitudesS4 0x43340000#32 = (.pair 2 7, .pair) ∧
      (∀ k : Lane, k ≠ 7 → k ≠ 2 →
        (#v[0, 0, 0x42C80000, 0, 0, 0, 0, 0x42A00000, 0, 0] : Lanes F32)[k] = magnitudesS4[k]) ∧
      (#v[0, 0, 0x42C80000, 0, 0, 0, 0, 0x42A00000, 0, 0] : Lanes F32)[(7 : Lane)] = magnitudesS4[(2 : Lane)] ∧
      (#v[0, 0, 0x42C80000, 0, 0, 0, 0, 0x42A00000, 0, 0] : Lanes F32)[(2 : Lane)] = magnitudesS4[(7 : Lane)] := by
  decide +kernel

theorem witness_ReportEmitsExactlyTheNewPairs :
    ((withDecision 0x000#10 0x248#10).tr.dec.extractLsb' 8 2 = 2#2 ∧
        (withDecision 0x000#10 0x248#10).tr.dec ≠ (withDecision 0x000#10 0x248#10).last) ∧
      ¬((withDecision 0x248#10 0x248#10).tr.dec.extractLsb' 8 2 = 2#2 ∧
        (withDecision 0x248#10 0x248#10).tr.dec ≠ (withDecision 0x248#10 0x248#10).last) ∧
      ∃ t : State, exec (.sample one) (start cfgB) = .next t ∧ (start cfgB).cnt ≠ 1#16 :=
  ⟨by decide, by decide, _, rfl, by decide⟩

theorem witness_EventWordPacksTheTwoIndices :
    (∃ t : State, exec .report (withDecision 0x000#10 0x289#10) = .next t ∧ (t.evt == some 0x89#8) = true) ∧
      decWellFormed (withDecision 0x000#10 0x289#10).tr.dec = true := ⟨exists_next (by decide), by decide⟩

theorem witness_RepeatsAreSuppressedAndReemitted :
    isPair 0x248#10 = true ∧ 0x248#10 ≠ (start cfgA).last ∧ isPair 0x000#10 = false ∧ isPair 0x100#10 = false := by decide

/-- In `cfgHalf` the first sample decides Ambiguous (ten equal magnitudes), the second Pair(4, 8). -/
theorem witness_FirstPairAfterInitEmits :
    (∀ i ∈ [Instr.idle, .sample one], isSampleOrIdle i = true) ∧
      eventWords [.init, .idle, .sample one] (start cfgHalf) = [] ∧
      ∃ t : State, runOps [.init, .idle, .sample one] (start cfgHalf) = .next t ∧
        nextIs (exec (.sample one) t) (fun u => isPair u.last) = true :=
  ⟨by decide, by decide +kernel, exists_next (by decide +kernel)⟩

/-- The threshold of overflow, the number below it, and a tie between two words. -/
theorem witness_RoundingIsToNearestTiesToEven :
    (2 ^ 25 - 1) * 2 ^ (252 + 0) ≤ (2 ^ 25 - 1) * 2 ^ 252 ∧ (2 ^ 25 - 1) * 2 ^ 252 - 1 < (2 ^ 25 - 1) * 2 ^ (252 + 0) ∧
      (isFinite 0x01800001#32 = true ∧ f32Mag 0x01800001#32 ≠ f32Mag (rnd32 false (2 ^ 25 + 2) 0) ∧
        ((f32Mag (rnd32 false (2 ^ 25 + 2) 0) * 2 ^ 0 : Int) - (2 ^ 25 + 2 : Nat)).natAbs =
          ((f32Mag 0x01800001#32 * 2 ^ 0 : Int) - (2 ^ 25 + 2 : Nat)).natAbs) := by decide +kernel

theorem witness_FaddFollowsItsCases :
    isNaN 0x7FC00000#32 = true ∧ (isInf posInf = true ∧ isInf negInf = true ∧ f32Sign posInf ≠ f32Sign negInf) ∧
      (isInf negInf = true ∧ f32Sign negInf = f32Sign negInf) ∧ isFinite 0x7F7FFFFF#32 = true ∧
      (isFinite one = true ∧ f32Val one + f32Val one ≠ 0) ∧
      (isFinite negZero = true ∧ f32Val negZero + f32Val negZero = 0) ∧ f32Val one + f32Val 0xBF800000#32 = 0 := by
  decide +kernel

theorem witness_FmulFollowsItsCases :
    isNaN 0x7FC00000#32 = true ∧ (isZero negZero = true ∧ isInf posInf = true) ∧
      (isInf negInf = true ∧ isNaN posInf = false ∧ isZero posInf = false) ∧
      (isFinite 0x7F7FFFFF#32 = true ∧ isFinite negZero = true ∧ f32Mag 0x7F7FFFFF#32 * f32Mag negZero = 0) := by
  decide +kernel

theorem witness_FgtIsTheOrderOfTheValues :
    isNaN 0xFFC00001#32 = true ∧ (isZero posZero = true ∧ isZero negZero = true) ∧ isFinite 0x7F7FFFFF#32 = true ∧
      (fgt posInf one = true ∧ fgt one negZero = true) ∧
      (isNaN posZero = false ∧ isNaN negZero = false ∧ fgt posZero negZero = false ∧ fgt negZero posZero = false) := by
  decide +kernel

theorem witness_AddingPositiveZeroKeepsTheValue :
    (0x7F800000#32 ≠ negZero ∧ isNaN 0x7F800000#32 = false) ∧ (0x80000001#32 ≠ negZero ∧ isNaN 0x80000001#32 = false) := by
  decide

theorem witness_BlockLengthIsLegal : 99 / 100 < 1 ∧ 65535 < 6553600 / 100 := by decide

theorem witness_IncrementsAreFloored :
    (100 ≤ 100 ∧ 6553599 ≤ 6553599) ∧ (∃ c : Cfg, configure 22050 (Vector.replicate 10 ⟨22049, 1⟩) true = .ok c) ∧
      ∀ k : Lane, (Vector.replicate 10 (⟨22049, 1⟩ : Freq))[k].den ≠ 0 ∧
        (Vector.replicate 10 (⟨22049, 1⟩ : Freq))[k].num < 22050 * (Vector.replicate 10 (⟨22049, 1⟩ : Freq))[k].den :=
  ⟨by decide, ⟨_, rfl⟩, by decide⟩

theorem witness_DatapathConstantsAreExact : isFinite one = true ∧ isFinite 0xFF7FFFFF#32 = true := by decide

theorem witness_EveryOperationCompletes : (start cfgB).inited = true ∧ ∀ x : F32, Instr.init ≠ .sample x :=
  ⟨rfl, by simp⟩

theorem witness_OnlyTheWritersChangeAnElement :
    (∃ t : State, exec .report beforePair = .next t) ∧ (∀ x : F32, Instr.report ≠ .sample x) ∧
      Instr.report ≠ .init ∧ Instr.report ≠ .advance ∧ Instr.report ≠ .accum ∧ Instr.report ≠ .close ∧
      Instr.report ≠ .count ∧ ((∃ t : State, exec .close beforePair = .next t) ∧ Instr.close ≠ .report) :=
  ⟨⟨_, rfl⟩, by simp, by decide, by decide, by decide, by decide, by decide, ⟨_, rfl⟩, by decide⟩

theorem witness_ConfigurationIsImmutable :
    (∃ t : State, step ((start cfgB).setInput [0x13F800000#34]) = .next t) ∧ (start cfgB).inited = true :=
  ⟨⟨_, rfl⟩, rfl⟩

/-- A step between closures, and one that closes a block, emits and presents a record. -/
theorem witness_EveryStepKeepsTheInvariant :
    (Inv ((start cfgB).setInput [0x13F800000#34]) ∧ ∃ t : State, step ((start cfgB).setInput [0x13F800000#34]) = .next t) ∧
      (Inv (beforePair.setInput [0x100000000#34]) ∧ ∃ t : State, step (beforePair.setInput [0x100000000#34]) = .next t) :=
  ⟨⟨by decide +kernel, _, rfl⟩, by decide +kernel, _, rfl⟩

/-- Four samples close a block in TESTCFG-B; three leave it open. -/
theorem witness_StateAfterSamplesIsItsBlockSums :
    (∀ i ∈ [Instr.sample one, .idle, .sample one, .sample one, .sample one], isSampleOrIdle i = true) ∧
      (∀ i ∈ [Instr.sample one, .sample one, .sample one], isSampleOrIdle i = true) := by decide

theorem witness_ZeroSampleLeavesTheSums :
    (beforePair.setCnt 2#16).inited = true ∧ 2 ≤ (beforePair.setCnt 2#16).cnt.toNat ∧ isZero posZero = true ∧
      isZero negZero = true ∧ NoNegZero (beforePair.setCnt 2#16).acc ∧ NoNegZero nanBlock := by decide +kernel

theorem witness_NaNSamplePoisonsItsBlock :
    beforePair.inited = true ∧ isNaN 0xFF800001#32 = true ∧ AllNaN (beforePair.setAcc nanBlock).acc ∧
      beforePair.cnt.toNat = 1 ∧ 2 ≤ (beforePair.setCnt 2#16).cnt.toNat := by decide +kernel

/-- The NaN block at the oldest place that still counts, and at the newest. -/
theorem witness_NaNBlockInTheWindowDecidesNoSignal :
    beforePair.cnt = 1#16 ∧
      (∃ t : State, exec (.sample one) (beforePair.setWin #v[Block.zero, Block.zero, nanBlock, Block.zero]) = .next t ∧
        decide (AllNaN t.win[(3 : Slot)]) = true) ∧
      ∃ t : State, exec (.sample 0x7FC00000#32) beforePair = .next t ∧ decide (AllNaN t.win[(0 : Slot)]) = true :=
  ⟨rfl, exists_next (by decide +kernel), exists_next (by decide +kernel)⟩

theorem witness_InstancesDoNotInteract :
    (0 : Nat) ≠ 1 ∧ ∃ one two : List State, stepInstance 0 [start cfgA, beforePair] = some one ∧
      stepInstance 1 one = some two := ⟨by decide, _, _, rfl, rfl⟩

end Sys2Proof.Tests
end

section
/-! The notions in which the proofs about binary32 (R9, R10) are stated: a magnitude as a function of bits 30:0, and the
rounding as a choice between two neighbouring magnitudes. `f32Mag_eq`, `roundMag_eq` and `exists_bracket` tie them to the
model. -/

namespace Sys2Proof.Machine

/-- Bits 30:0 of a word, the exponent and the fraction together: a number that grows with the magnitude. -/
def magBits (w : F32) : Nat := w.toNat % 2 ^ 31

/-- The magnitude, in units of `2^-149`, that bits 30:0 stand for (R9), for every natural number. -/
def magOfBits (p : Nat) : Nat :=
  if p / 2 ^ 23 = 0 then p % 2 ^ 23 else (2 ^ 23 + p % 2 ^ 23) * 2 ^ (p / 2 ^ 23 - 1)

/-- Bits 30:0 of the rounding of `n * 2^(-149-k)`, with no bound on the exponent. -/
def roundBits (n k : Nat) : Nat := roundPlace n k * 2 ^ 23 + divNearestEven n (2 ^ (k + roundPlace n k))

/-- How far the magnitude of the bits `p` lies from `n * 2^(-149-k)`, in units of `2^(-149-k)`. -/
def distance (p n k : Nat) : Nat := ((magOfBits p * 2 ^ k : Int) - n).natAbs

/-- `n * 2^(-149-k)` lies `r` above the magnitude of the bits `p`, the next magnitude `d` above that one, and the rounding
takes the nearer of the two, at a tie the even one. -/
def Bracket (n k p d r : Nat) : Prop :=
  r < d ∧ n = magOfBits p * 2 ^ k + r ∧ magOfBits (p + 1) * 2 ^ k = magOfBits p * 2 ^ k + d ∧
    ((roundBits n k = p ∧ (2 * r < d ∨ 2 * r ≤ d ∧ p % 2 = 0)) ∨
      (roundBits n k = p + 1 ∧ (d < 2 * r ∨ d ≤ 2 * r ∧ (p + 1) % 2 = 0)))

/-! Each definition that several proofs unfold, as an equation. -/

theorem magBits_eq (w : F32) : magBits w = w.toNat % 2 ^ 31 := rfl

theorem roundPlace_eq (n k : Nat) : roundPlace n k = n.log2 - (k + 23) := rfl

theorem roundBits_eq (n k : Nat) :
    roundBits n k = roundPlace n k * 2 ^ 23 + divNearestEven n (2 ^ (k + roundPlace n k)) := rfl

theorem distance_eq (p n k : Nat) : distance p n k = (((magOfBits p * 2 ^ k : Nat) : Int) - n).natAbs := by
  rw [distance, Nat.cast_mul, Nat.cast_pow, Nat.cast_ofNat]

end Sys2Proof.Machine
end

section
/-! The fields of a binary32 word (R9) as arithmetic on its bits 30:0, and the magnitude they stand for. -/

namespace Sys2Proof.Machine

theorem magBits_lt (w : F32) : magBits w < 2 ^ 31 := Nat.mod_lt _ (by decide)

theorem f32Exp_eq (w : F32) : f32Exp w = magBits w / 2 ^ 23 := by
  rw [f32Exp, magBits_eq, BitVec.extractLsb'_toNat, Nat.shiftRight_eq_div_pow]
  exact (Nat.mod_mul_right_div_self w.toNat (2 ^ 23) (2 ^ 8)).symm

theorem f32Frac_eq (w : F32) : f32Frac w = magBits w % 2 ^ 23 := by
  rw [f32Frac, magBits_eq, BitVec.extractLsb'_toNat, Nat.shiftRight_zero]
  exact (Nat.mod_mod_of_dvd w.toNat (by decide)).symm

theorem f32Sign_iff (w : F32) : f32Sign w = true ↔ 2 ^ 31 ≤ w.toNat := by
  have hw := w.isLt
  rw [f32Sign, BitVec.getLsbD, Nat.testBit_eq_decide_div_mod_eq, decide_eq_true_iff]
  omega

/-- A word is its sign and its bits 30:0. -/
theorem toNat_eq (w : F32) : w.toNat = magBits w + if f32Sign w then 2 ^ 31 else 0 := by
  have hw := w.isLt
  have hs := f32Sign_iff w
  cases h : f32Sign w
  · rw [h] at hs
    exact (Nat.mod_eq_of_lt (Nat.lt_of_not_le fun hle => Bool.false_ne_true (hs.mpr hle))).symm
  · have hle := hs.mp h
    rw [magBits_eq, Nat.mod_eq_sub_mod hle, Nat.mod_eq_of_lt (by omega), if_pos rfl, Nat.sub_add_cancel hle]

theorem eq_of_sign_of_magBits {a b : F32} (hs : f32Sign a = f32Sign b) (hm : magBits a = magBits b) : a = b :=
  BitVec.eq_of_toNat_eq (by rw [toNat_eq, hs, hm, ← toNat_eq])

/-! ### The classes of R9 -/

theorem isNaN_iff (w : F32) : isNaN w = true ↔ 255 * 2 ^ 23 < magBits w := by
  have h := magBits_lt w
  simp only [isNaN, f32Exp_eq, f32Frac_eq, Bool.and_eq_true, beq_iff_eq, bne_iff_ne]
  omega

theorem isInf_iff (w : F32) : isInf w = true ↔ magBits w = 255 * 2 ^ 23 := by
  have h := magBits_lt w
  simp only [isInf, f32Exp_eq, f32Frac_eq, Bool.and_eq_true, beq_iff_eq]
  omega

theorem isZero_iff (w : F32) : isZero w = true ↔ magBits w = 0 := by
  simp only [isZero, f32Exp_eq, f32Frac_eq, Bool.and_eq_true, beq_iff_eq]
  omega

theorem isFinite_iff (w : F32) : isFinite w = true ↔ magBits w < 255 * 2 ^ 23 := by
  have h := magBits_lt w
  simp only [isFinite, f32Exp_eq, bne_iff_ne]
  omega

theorem isNaN_someNaN : isNaN someNaN = true := by decide

theorem isNaN_eq_false_of_isInf {w : F32} (h : isInf w = true) : isNaN w = false := by
  rw [isInf_iff] at h
  rw [Bool.eq_false_iff, ne_eq, isNaN_iff]
  omega

theorem isZero_eq_false_of_isInf {w : F32} (h : isInf w = true) : isZero w = false := by
  rw [isInf_iff] at h
  rw [Bool.eq_false_iff, ne_eq, isZero_iff]
  omega

theorem isNaN_eq_false_of_isZero {w : F32} (h : isZero w = true) : isNaN w = false := by
  rw [isZero_iff] at h
  rw [Bool.eq_false_iff, ne_eq, isNaN_iff]
  omega

theorem isNaN_eq_false_of_isFinite {w : F32} (h : isFinite w = true) : isNaN w = false := by
  rw [isFinite_iff] at h
  rw [Bool.eq_false_iff, ne_eq, isNaN_iff]
  omega

theorem isInf_eq_false_of_isFinite {w : F32} (h : isFinite w = true) : isInf w = false := by
  rw [isFinite_iff] at h
  rw [Bool.eq_false_iff, ne_eq, isInf_iff]
  omega

/-- Two infinities of one sign are one word. -/
theorem eq_of_isInf_of_sign {a b : F32} (ha : isInf a = true) (hb : isInf b = true)
    (hs : f32Sign a = f32Sign b) : a = b :=
  eq_of_sign_of_magBits hs (((isInf_iff a).mp ha).trans ((isInf_iff b).mp hb).symm)

/-! ### The magnitude grows with the bits -/

theorem f32Mag_eq (w : F32) : f32Mag w = magOfBits (magBits w) := by
  rw [f32Mag, f32Exp_eq, f32Frac_eq]
  rfl

theorem magOfBits_of_subnormal {p : Nat} (h : p < 2 ^ 23) : magOfBits p = p :=
  (if_pos (Nat.div_eq_of_lt h)).trans (Nat.mod_eq_of_lt h)

theorem magOfBits_of_normal {p e : Nat} (h : p / 2 ^ 23 = e + 1) :
    magOfBits p = (2 ^ 23 + p % 2 ^ 23) * 2 ^ e := by
  have he : e = p / 2 ^ 23 - 1 := by omega
  rw [he]
  exact if_neg (by omega)

/-- The bits of a significand `m` at the place `q`: the hidden bit adds 1 to the exponent field, a carry out of the
significand adds 2. -/
theorem magOfBits_place {q m : Nat} (hm : m ≤ 2 ^ 24) (hq : q = 0 ∨ 2 ^ 23 ≤ m) :
    magOfBits (q * 2 ^ 23 + m) = m * 2 ^ q := by
  rcases Nat.lt_or_ge m (2 ^ 23) with hsub | hnorm
  · obtain rfl : q = 0 := by omega
    rw [magOfBits_of_subnormal (by omega)]
    omega
  · rcases Nat.lt_or_ge m (2 ^ 24) with hlt | hge
    · have he : (q * 2 ^ 23 + m) / 2 ^ 23 = q + 1 := by omega
      have hf : 2 ^ 23 + (q * 2 ^ 23 + m) % 2 ^ 23 = m := by omega
      rw [magOfBits_of_normal he, hf]
    · obtain rfl : m = 2 ^ 24 := by omega
      have he : (q * 2 ^ 23 + 2 ^ 24) / 2 ^ 23 = q + 1 + 1 := by omega
      have hf : 2 ^ 23 + (q * 2 ^ 23 + 2 ^ 24) % 2 ^ 23 = 2 ^ 23 := by omega
      rw [magOfBits_of_normal he, hf, Nat.pow_succ]
      omega

/-- Every number is a place and a significand below the carry. -/
theorem exists_place (p : Nat) : ∃ q m, p = q * 2 ^ 23 + m ∧ m < 2 ^ 24 ∧ (q = 0 ∨ 2 ^ 23 ≤ m) :=
  ⟨p / 2 ^ 23 - 1, p - (p / 2 ^ 23 - 1) * 2 ^ 23, by omega, by omega, by omega⟩

/-- The next number has the next significand at the same place, so its magnitude is larger. -/
theorem magOfBits_strictMono : StrictMono magOfBits := by
  refine strictMono_nat_of_lt_succ fun p => ?_
  obtain ⟨q, m, rfl, hm, hq⟩ := exists_place p
  rw [Nat.add_assoc, magOfBits_place hm.le hq, magOfBits_place hm (by omega)]
  exact Nat.mul_lt_mul_of_pos_right m.lt_succ_self (Nat.two_pow_pos q)

theorem magOfBits_le {p r : Nat} (h : p ≤ r) : magOfBits p ≤ magOfBits r :=
  StrictMono.monotone magOfBits_strictMono h

theorem magOfBits_inj {p r : Nat} : magOfBits p = magOfBits r ↔ p = r :=
  Function.Injective.eq_iff (StrictMono.injective magOfBits_strictMono)

theorem magOfBits_mul_lt (k : Nat) {p r : Nat} (h : p < r) : magOfBits p * 2 ^ k < magOfBits r * 2 ^ k :=
  Nat.mul_lt_mul_of_pos_right (magOfBits_strictMono h) (Nat.two_pow_pos k)

theorem magOfBits_mul_le (k : Nat) {p r : Nat} (h : p ≤ r) : magOfBits p * 2 ^ k ≤ magOfBits r * 2 ^ k :=
  Nat.mul_le_mul_right _ (magOfBits_le h)

theorem f32Mag_eq_zero_iff (w : F32) : f32Mag w = 0 ↔ magBits w = 0 := by
  rw [f32Mag_eq]
  exact magOfBits_inj (r := 0)

/-- A finite magnitude lies below that of the infinities. -/
theorem f32Mag_lt_of_isFinite {w : F32} (h : isFinite w = true) : f32Mag w < f32Mag posInf := by
  rw [f32Mag_eq, f32Mag_eq]
  exact magOfBits_strictMono ((isFinite_iff w).mp h)

/-! ### The value -/

theorem f32Val_of_neg {w : F32} (h : f32Sign w = true) : f32Val w = -(f32Mag w : Int) := if_pos h

theorem f32Val_of_nonneg {w : F32} (h : f32Sign w = false) : f32Val w = (f32Mag w : Int) :=
  if_neg (by rw [h]; decide)

theorem f32Val_natAbs (w : F32) : (f32Val w).natAbs = f32Mag w := by
  cases hs : f32Sign w
  · rw [f32Val_of_nonneg hs, Int.natAbs_natCast]
  · rw [f32Val_of_neg hs, Int.natAbs_neg, Int.natAbs_natCast]

theorem f32Val_eq_zero_iff (w : F32) : f32Val w = 0 ↔ isZero w = true := by
  rw [← Int.natAbs_eq_zero, f32Val_natAbs, f32Mag_eq_zero_iff, isZero_iff]

/-- Words of one value are equal or both zeros. -/
theorem eq_or_isZero_of_f32Val_eq {a b : F32} (h : f32Val a = f32Val b) :
    a = b ∨ (isZero a = true ∧ isZero b = true) := by
  have hmag : f32Mag a = f32Mag b := by rw [← f32Val_natAbs, h, f32Val_natAbs]
  by_cases hs : f32Sign a = f32Sign b
  · rw [f32Mag_eq, f32Mag_eq] at hmag
    exact .inl (eq_of_sign_of_magBits hs (magOfBits_inj.mp hmag))
  · right
    have hzero : f32Val a = 0 := by
      cases ha : f32Sign a <;> cases hb : f32Sign b
      · exact absurd (ha.trans hb.symm) hs
      · rw [f32Val_of_nonneg ha, f32Val_of_neg hb] at h
        rw [f32Val_of_nonneg ha]; omega
      · rw [f32Val_of_neg ha, f32Val_of_nonneg hb] at h
        rw [f32Val_of_neg ha]; omega
      · exact absurd (ha.trans hb.symm) hs
    exact ⟨(f32Val_eq_zero_iff a).mp hzero, (f32Val_eq_zero_iff b).mp (h ▸ hzero)⟩

/-- The values of the finite words lie between those of the infinities. -/
theorem f32Val_bounds {w : F32} (h : isFinite w = true) : f32Val negInf < f32Val w ∧ f32Val w < f32Val posInf := by
  have hlt := f32Mag_lt_of_isFinite h
  have habs := f32Val_natAbs w
  have hpos : f32Val posInf = f32Mag posInf := rfl
  have hneg : f32Val negInf = -(f32Mag posInf : Int) := rfl
  omega

theorem eq_negZero_iff (w : F32) : w = negZero ↔ f32Sign w = true ∧ isZero w = true := by
  constructor
  · rintro rfl
    decide
  · rintro ⟨hs, hz⟩
    exact eq_of_sign_of_magBits hs ((isZero_iff w).mp hz)

end Sys2Proof.Machine
end

section
/-! `rnd32` (R10): the rounded magnitude is nearest among all magnitudes, the infinity's `2^277` and those beyond it
included; that it is finite exactly below the threshold follows from this. -/

namespace Sys2Proof.Machine

theorem roundMag_eq (n k : Nat) : roundMag n k = BitVec.ofNat 32 (min (roundBits n k) (255 * 2 ^ 23)) := rfl

/-- `divNearestEven` rounds down or up, to the nearer one, and at a tie to the even one. -/
theorem divNearestEven_cases (n d : Nat) :
    (divNearestEven n d = n / d ∧ (2 * (n % d) < d ∨ 2 * (n % d) ≤ d ∧ n / d % 2 = 0)) ∨
    (divNearestEven n d = n / d + 1 ∧ (d < 2 * (n % d) ∨ d ≤ 2 * (n % d) ∧ (n / d + 1) % 2 = 0)) := by
  unfold divNearestEven
  split
  · right; omega
  · left; omega

theorem divNearestEven_of_dvd {n d : Nat} (hd : 0 < d) (h : d ∣ n) : divNearestEven n d * d = n := by
  have hr := Nat.mod_eq_zero_of_dvd h
  rcases divNearestEven_cases n d with ⟨he, -⟩ | ⟨-, hup⟩
  · rw [he, Nat.div_mul_cancel h]
  · omega

/-- The significand that is cut off at the place has 24 bits, the first of them 1 unless the place is the lowest. -/
theorem significand_bounds (n k : Nat) :
    n / 2 ^ (k + roundPlace n k) < 2 ^ 24 ∧
      (roundPlace n k = 0 ∨ 2 ^ 23 ≤ n / 2 ^ (k + roundPlace n k)) := by
  constructor
  · rw [Nat.div_lt_iff_lt_mul (Nat.two_pow_pos _), ← Nat.pow_add]
    refine Nat.lt_of_lt_of_le Nat.lt_log2_self (Nat.pow_le_pow_right (by decide) ?_)
    rw [roundPlace_eq]
    omega
  · rcases Nat.eq_zero_or_pos (roundPlace n k) with hq | hq
    · exact .inl hq
    · right
      have hlog : 23 + (k + roundPlace n k) = n.log2 := by rw [roundPlace_eq] at hq ⊢; omega
      have hn : n ≠ 0 := by rintro rfl; simp at hlog
      rw [Nat.le_div_iff_mul_le (Nat.two_pow_pos _), ← Nat.pow_add, hlog]
      exact Nat.log2_self_le hn

/-- The magnitude of the rounded bits, in the unit of `n`, is the rounded significand at its place. -/
theorem magOfBits_at_place (n k m : Nat) (hm : m ≤ n / 2 ^ (k + roundPlace n k) + 1)
    (hge : n / 2 ^ (k + roundPlace n k) ≤ m) :
    magOfBits (roundPlace n k * 2 ^ 23 + m) * 2 ^ k = m * 2 ^ (k + roundPlace n k) := by
  obtain ⟨hlt, hnorm⟩ := significand_bounds n k
  rw [magOfBits_place (by omega) (by omega), Nat.mul_assoc, ← Nat.pow_add, Nat.add_comm k]

/-- A number that has no bit below its place is rounded to itself. -/
theorem roundBits_of_dvd {n k : Nat} (h : 2 ^ (k + roundPlace n k) ∣ n) :
    magOfBits (roundBits n k) * 2 ^ k = n := by
  have hm := divNearestEven_of_dvd (Nat.two_pow_pos _) h
  have hq : divNearestEven n (2 ^ (k + roundPlace n k)) = n / 2 ^ (k + roundPlace n k) :=
    Nat.eq_div_of_mul_eq_left (Nat.two_pow_pos _).ne' hm
  rw [roundBits_eq, magOfBits_at_place _ _ _ (by omega) (by omega), hm]

/-- A number of at most 24 significant bits, the last of them no lower than the lowest place, has no bit below its
place. -/
theorem place_dvd {m j k : Nat} (hm : m < 2 ^ 24) (hk : k ≤ j) : 2 ^ (k + roundPlace (m * 2 ^ j) k) ∣ m * 2 ^ j := by
  rcases Nat.eq_zero_or_pos m with rfl | hpos
  · simp
  · have hlt : m * 2 ^ j < 2 ^ (24 + j) := by
      rw [Nat.pow_add]
      exact Nat.mul_lt_mul_of_pos_right hm (Nat.two_pow_pos j)
    have hlog := (Nat.log2_lt (Nat.mul_pos hpos (Nat.two_pow_pos j)).ne').mpr hlt
    exact Nat.dvd_mul_left_of_dvd (Nat.pow_dvd_pow 2 (by rw [roundPlace_eq]; omega)) m

theorem roundBits_zero (k : Nat) : roundBits 0 k = 0 := by
  have hmag := roundBits_of_dvd (n := 0) (k := k) (Nat.dvd_zero _)
  have hzero := (Nat.mul_eq_zero.mp hmag).resolve_right (Nat.two_pow_pos k).ne'
  exact magOfBits_inj.mp (hzero : _ = magOfBits 0)

theorem exists_bracket (n k : Nat) : ∃ p d r, Bracket n k p d r := by
  refine ⟨roundPlace n k * 2 ^ 23 + n / 2 ^ (k + roundPlace n k), 2 ^ (k + roundPlace n k),
    n % 2 ^ (k + roundPlace n k), Nat.mod_lt _ (Nat.two_pow_pos _), ?_, ?_, ?_⟩
  · rw [magOfBits_at_place _ _ _ (Nat.le_succ _) le_rfl, Nat.mul_comm, Nat.div_add_mod]
  · rw [Nat.add_assoc, magOfBits_at_place _ _ _ le_rfl (Nat.le_succ _),
      magOfBits_at_place _ _ _ (Nat.le_succ _) le_rfl, Nat.add_mul, Nat.one_mul]
  · have hparity (m : Nat) : (roundPlace n k * 2 ^ 23 + m) % 2 = m % 2 := by omega
    rw [roundBits_eq, Nat.add_assoc, hparity, hparity]
    rcases divNearestEven_cases n (2 ^ (k + roundPlace n k)) with ⟨he, hdown⟩ | ⟨he, hup⟩
    · exact .inl ⟨by rw [he], hdown⟩
    · exact .inr ⟨by rw [he], hup⟩

/-- Where the rounding of `n * 2^(-149-k)` lies above the magnitude of `p`: where `n` does by more than half of the
distance to the next, and at the tie where `p` is odd. -/
theorem lt_roundBits_iff (n k p : Nat) :
    p < roundBits n k ↔
      magOfBits p * 2 ^ k + magOfBits (p + 1) * 2 ^ k < 2 * n ∨
        magOfBits p * 2 ^ k + magOfBits (p + 1) * 2 ^ k = 2 * n ∧ p % 2 = 1 := by
  obtain ⟨lo, d, r, hr, hn, hd, hround⟩ := exists_bracket n k
  rcases Nat.lt_trichotomy p lo with hp | rfl | hp
  · have hlow := magOfBits_mul_lt k hp
    have hhigh := magOfBits_mul_le k (show p + 1 ≤ lo from hp)
    exact iff_of_true (by omega) (.inl (by omega))
  · have htwice : 2 * n = magOfBits p * 2 ^ k + (magOfBits p * 2 ^ k + 2 * r) := by omega
    rw [hd, htwice, Nat.add_lt_add_iff_left, Nat.add_lt_add_iff_left, Nat.add_left_cancel_iff, Nat.add_left_cancel_iff]
    clear hn hd htwice
    omega
  · have hlow := magOfBits_mul_le k (show lo + 1 ≤ p from hp)
    have hhigh := magOfBits_mul_lt k (show lo + 1 < p + 1 from Nat.succ_lt_succ hp)
    exact iff_of_false (by omega) (by omega)

/-- Of two numbers the nearer to `t` is the lower where `t` lies in the lower half between them. -/
theorem natAbs_sub_le_of_lt {x y t : Int} (hxy : x < y) (h : 2 * t ≤ x + y) :
    (x - t).natAbs ≤ (y - t).natAbs ∧ ((x - t).natAbs = (y - t).natAbs → x + y = 2 * t) := by
  omega

theorem natAbs_sub_le_of_gt {x y t : Int} (hxy : y < x) (h : x + y ≤ 2 * t) :
    (x - t).natAbs ≤ (y - t).natAbs ∧ ((x - t).natAbs = (y - t).natAbs → x + y = 2 * t) := by
  omega

/-- No number of bits is nearer than the rounding, and where another is as near, the rounding is even (R10). -/
theorem roundBits_nearest (n k p : Nat) :
    distance (roundBits n k) n k ≤ distance p n k ∧
      (distance (roundBits n k) n k = distance p n k → p ≠ roundBits n k → roundBits n k % 2 = 0) := by
  rw [distance_eq, distance_eq]
  rcases Nat.lt_trichotomy p (roundBits n k) with hp | hp | hp
  · obtain ⟨b, hb⟩ : ∃ b, roundBits n k = b + 1 := Nat.exists_eq_add_one.mpr (Nat.zero_lt_of_lt hp)
    have hmid := (lt_roundBits_iff n k b).mp (hb ▸ b.lt_succ_self)
    rw [hb] at hp ⊢
    have hlt := magOfBits_mul_lt k hp
    have hle := magOfBits_mul_le k (Nat.le_of_lt_succ hp)
    have heven (hsum : ((magOfBits (b + 1) * 2 ^ k : Nat) + (magOfBits p * 2 ^ k : Nat) : Int) = 2 * n) :
        (b + 1) % 2 = 0 := by omega
    obtain ⟨hnear, htie⟩ := natAbs_sub_le_of_gt (t := n) (Int.ofNat_lt.mpr hlt) (by omega)
    exact ⟨hnear, fun heq _ => heven (htie heq)⟩
  · exact ⟨by rw [hp], fun _ hne => absurd hp hne⟩
  · have hmid := (lt_roundBits_iff n k (roundBits n k)).not.mp (Nat.lt_irrefl _)
    have hlt := magOfBits_mul_lt k hp
    have hle := magOfBits_mul_le k (show roundBits n k + 1 ≤ p from hp)
    have heven (hsum : ((magOfBits (roundBits n k) * 2 ^ k : Nat) + (magOfBits p * 2 ^ k : Nat) : Int) = 2 * n) :
        roundBits n k % 2 = 0 := by omega
    obtain ⟨hnear, htie⟩ := natAbs_sub_le_of_lt (t := n) (Int.ofNat_lt.mpr hlt) (by omega)
    exact ⟨hnear, fun heq _ => heven (htie heq)⟩

end Sys2Proof.Machine
end

section
/-! The word of `rnd32` (R10), and O39. -/

namespace Sys2Proof.Machine

/-- The largest finite magnitude, `(2^24 - 1) * 2^253` units, and that of the infinities, `2^24 * 2^253`, in halves of
their distance. -/
theorem magOfBits_infinity (k : Nat) :
    magOfBits (255 * 2 ^ 23 - 1) * 2 ^ k = (2 ^ 25 - 2) * 2 ^ (252 + k) ∧
      magOfBits (255 * 2 ^ 23 - 1 + 1) * 2 ^ k = 2 ^ 25 * 2 ^ (252 + k) := by
  have hmax : magOfBits (255 * 2 ^ 23 - 1) = (2 ^ 25 - 2) * 2 ^ 252 := by decide
  have hinf : magOfBits (255 * 2 ^ 23 - 1 + 1) = 2 ^ 25 * 2 ^ 252 := by decide
  rw [hmax, hinf, Nat.mul_assoc, Nat.mul_assoc, ← Nat.pow_add]
  exact ⟨rfl, rfl⟩

/-- The bits reach those of the infinities exactly from half a place above the largest finite magnitude on: the tie goes
up, since the bits of the largest finite magnitude are odd. -/
theorem roundBits_overflow_iff (n k : Nat) : 255 * 2 ^ 23 ≤ roundBits n k ↔ (2 ^ 25 - 1) * 2 ^ (252 + k) ≤ n := by
  obtain ⟨hmax, hinf⟩ := magOfBits_infinity k
  have hround := lt_roundBits_iff n k (255 * 2 ^ 23 - 1)
  rw [hmax, hinf] at hround
  generalize 2 ^ (252 + k) = unit at hround ⊢
  refine Iff.trans (show _ ↔ 255 * 2 ^ 23 - 1 < roundBits n k from Iff.rfl) (hround.trans ?_)
  omega

theorem withSign_toNat (neg : Bool) {w : F32} (hw : w.toNat < 2 ^ 31) :
    (withSign neg w).toNat = w.toNat + if neg then 2 ^ 31 else 0 := by
  cases neg
  · rfl
  · have hor := Nat.two_pow_add_eq_or_of_lt hw 1
    rw [Nat.mul_one, Nat.add_comm, Nat.lor_comm] at hor
    simpa [withSign] using hor.symm

theorem min_infinity_lt (m : Nat) : min m (255 * 2 ^ 23) < 2 ^ 31 :=
  Nat.lt_of_le_of_lt (Nat.min_le_right _ _) (by decide)

theorem roundMag_toNat (n k : Nat) : (roundMag n k).toNat = min (roundBits n k) (255 * 2 ^ 23) := by
  rw [roundMag_eq, BitVec.toNat_ofNat, Nat.mod_eq_of_lt ((min_infinity_lt _).trans (by decide))]

theorem rnd32_toNat (neg : Bool) (n k : Nat) :
    (rnd32 neg n k).toNat = min (roundBits n k) (255 * 2 ^ 23) + if neg then 2 ^ 31 else 0 := by
  rw [rnd32, withSign_toNat neg (by rw [roundMag_toNat]; exact min_infinity_lt _), roundMag_toNat]

theorem rnd32_magBits (neg : Bool) (n k : Nat) : magBits (rnd32 neg n k) = min (roundBits n k) (255 * 2 ^ 23) := by
  rw [magBits_eq, rnd32_toNat]
  cases neg
  · rw [if_neg Bool.false_ne_true, Nat.add_zero, Nat.mod_eq_of_lt (min_infinity_lt _)]
  · rw [if_pos rfl, Nat.add_mod_right, Nat.mod_eq_of_lt (min_infinity_lt _)]

theorem rnd32_sign (neg : Bool) (n k : Nat) : f32Sign (rnd32 neg n k) = neg := by
  rw [Bool.eq_iff_iff, f32Sign_iff, rnd32_toNat]
  cases neg
  · rw [if_neg Bool.false_ne_true, Nat.add_zero]
    exact iff_of_false (Nat.not_le_of_lt (min_infinity_lt _)) Bool.false_ne_true
  · rw [if_pos rfl]
    exact iff_of_true (Nat.le_add_left _ _) rfl

theorem rnd32_eq_infinity_iff (neg : Bool) (n k : Nat) :
    rnd32 neg n k = (if neg then negInf else posInf) ↔ 255 * 2 ^ 23 ≤ roundBits n k := by
  have hinf : (if neg then negInf else posInf).toNat = 255 * 2 ^ 23 + if neg then 2 ^ 31 else 0 := by
    cases neg <;> rfl
  rw [← BitVec.toNat_inj, rnd32_toNat, hinf, Nat.add_right_cancel_iff, min_eq_right_iff]

theorem rnd32_isFinite_iff (neg : Bool) (n k : Nat) :
    isFinite (rnd32 neg n k) = true ↔ n < (2 ^ 25 - 1) * 2 ^ (252 + k) := by
  rw [isFinite_iff, rnd32_magBits, ← Nat.not_le, ← Nat.not_le, ← roundBits_overflow_iff, le_min_iff,
    and_iff_left le_rfl]

/-- Below the threshold of overflow the word holds the rounded bits. -/
theorem rnd32_magBits_of_lt {neg : Bool} {n k : Nat} (h : n < (2 ^ 25 - 1) * 2 ^ (252 + k)) :
    magBits (rnd32 neg n k) = roundBits n k := by
  rw [← Nat.not_le, ← roundBits_overflow_iff] at h
  rw [rnd32_magBits, Nat.min_eq_left (Nat.le_of_not_le h)]

/-- A number below the threshold that has no bit below its place is rounded to itself. -/
theorem f32Mag_rnd32_of_dvd {neg : Bool} {n k : Nat} (h : n < (2 ^ 25 - 1) * 2 ^ (252 + k))
    (hd : 2 ^ (k + roundPlace n k) ∣ n) : f32Mag (rnd32 neg n k) * 2 ^ k = n := by
  rw [f32Mag_eq, rnd32_magBits_of_lt h, roundBits_of_dvd hd]

theorem rnd32_zero (neg : Bool) (k : Nat) : rnd32 neg 0 k = if neg then negZero else posZero := by
  apply BitVec.eq_of_toNat_eq
  rw [rnd32_toNat, roundBits_zero]
  cases neg <;> rfl

theorem getLsbD_zero_eq_false_iff (w : F32) : w.getLsbD 0 = false ↔ magBits w % 2 = 0 := by
  rw [BitVec.getLsbD, Nat.testBit_zero, decide_eq_false_iff_not, magBits_eq, Nat.mod_mod_of_dvd _ (by decide)]
  exact Nat.mod_two_ne_one

/-- Settles O39: the bits rounded to are nearest among all bits, and the infinities are only those past the largest
finite ones. -/
theorem roundingIsToNearestTiesToEven : Obligations.RoundingIsToNearestTiesToEven := by
  intro neg n k
  refine ⟨(rnd32_eq_infinity_iff neg n k).trans (roundBits_overflow_iff n k), fun hlt => ?_⟩
  refine ⟨(rnd32_isFinite_iff neg n k).mpr hlt, rnd32_sign neg n k, fun y _ => ?_⟩
  obtain ⟨hnear, htie⟩ := roundBits_nearest n k (magBits y)
  rw [getLsbD_zero_eq_false_iff, f32Mag_eq, f32Mag_eq y, rnd32_magBits_of_lt hlt]
  exact ⟨hnear, fun heq hne => htie heq fun hsame => hne (by rw [hsame])⟩

end Sys2Proof.Machine
end

section
/-! `fadd`, `fmul` and `fgt` (R11 to R13): an equation for each case, then O40, O41 and O42. -/

namespace Sys2Proof.Machine

/-! ### fadd -/

theorem fadd_of_isNaN {a b : F32} (h : isNaN a = true ∨ isNaN b = true) : fadd a b = someNaN :=
  if_pos (by rwa [Bool.or_eq_true])

/-- What is left of `fadd` where neither operand is a NaN. -/
theorem fadd_of_not_isNaN {a b : F32} (ha : isNaN a = false) (hb : isNaN b = false) :
    fadd a b =
      if isInf a && isInf b then (if f32Sign a == f32Sign b then a else someNaN)
      else if isInf a then a
      else if isInf b then b
      else if f32Val a + f32Val b = 0 then (if f32Sign a && f32Sign b then negZero else posZero)
      else rnd32 (decide (f32Val a + f32Val b < 0)) (f32Val a + f32Val b).natAbs 0 :=
  if_neg (by rw [ha, hb]; decide)

theorem fadd_of_isInf {a b : F32} (ha : isInf a = true) (hb : isInf b = true) :
    fadd a b = if f32Sign a == f32Sign b then a else someNaN := by
  rw [fadd_of_not_isNaN (isNaN_eq_false_of_isInf ha) (isNaN_eq_false_of_isInf hb), if_pos (by rw [ha, hb]; decide)]

theorem fadd_of_isInf_left {a b : F32} (ha : isInf a = true) (hb : isFinite b = true) : fadd a b = a := by
  rw [fadd_of_not_isNaN (isNaN_eq_false_of_isInf ha) (isNaN_eq_false_of_isFinite hb),
    if_neg (by rw [isInf_eq_false_of_isFinite hb, Bool.and_false]; decide), if_pos ha]

theorem fadd_of_isFinite {a b : F32} (ha : isFinite a = true) (hb : isFinite b = true) :
    fadd a b =
      if f32Val a + f32Val b = 0 then (if f32Sign a && f32Sign b then negZero else posZero)
      else rnd32 (decide (f32Val a + f32Val b < 0)) (f32Val a + f32Val b).natAbs 0 := by
  rw [fadd_of_not_isNaN (isNaN_eq_false_of_isFinite ha) (isNaN_eq_false_of_isFinite hb),
    isInf_eq_false_of_isFinite ha, isInf_eq_false_of_isFinite hb, Bool.and_false, if_neg Bool.false_ne_true,
    if_neg Bool.false_ne_true, if_neg Bool.false_ne_true]

/-- Two negative values whose sum is zero are both `-0`. -/
theorem signs_iff_negZero_of_sum_eq_zero {a b : F32} (h : f32Val a + f32Val b = 0) :
    (f32Sign a && f32Sign b) = true ↔ a = negZero ∧ b = negZero := by
  rw [Bool.and_eq_true, eq_negZero_iff, eq_negZero_iff]
  constructor
  · rintro ⟨ha, hb⟩
    rw [f32Val_of_neg ha, f32Val_of_neg hb] at h
    rw [← f32Val_eq_zero_iff, ← f32Val_eq_zero_iff, f32Val_of_neg ha, f32Val_of_neg hb]
    refine ⟨⟨ha, ?_⟩, hb, ?_⟩ <;> omega
  · rintro ⟨⟨ha, -⟩, hb, -⟩
    exact ⟨ha, hb⟩

theorem fadd_of_sum_eq_zero {a b : F32} (ha : isFinite a = true) (hb : isFinite b = true)
    (h : f32Val a + f32Val b = 0) : fadd a b = if a = negZero ∧ b = negZero then negZero else posZero := by
  rw [fadd_of_isFinite ha hb, if_pos h]
  exact if_congr (signs_iff_negZero_of_sum_eq_zero h) rfl rfl

/-- The two infinities of one sign are one word, so every case of `fadd` is symmetric. -/
theorem fadd_comm (a b : F32) : fadd a b = fadd b a := by
  unfold fadd
  rw [Bool.or_comm (isNaN b), Bool.and_comm (isInf b), Bool.and_comm (f32Sign b), Int.add_comm (f32Val b),
    Bool.beq_comm (a := f32Sign b)]
  cases ha : isInf a <;> cases hb : isInf b
  case true.true =>
    by_cases hs : f32Sign a = f32Sign b
    · rw [eq_of_isInf_of_sign ha hb hs]
    · rw [beq_eq_false_iff_ne.mpr hs]
      rfl
  all_goals rfl

/-- 1 + 2^-24 is rounded back to 1, but 2^-24 + 2^-24 is a whole place of 1. -/
theorem fadd_not_associative :
    fadd (fadd 0x3F800000#32 0x33800000#32) 0x33800000#32 ≠ fadd 0x3F800000#32 (fadd 0x33800000#32 0x33800000#32) := by
  decide

/-- Settles O40, case by case. -/
theorem faddFollowsItsCases : Obligations.FaddFollowsItsCases := by
  refine ⟨fun a b => ⟨fun h => ?_, fun ha hb hs => ?_, fun ha hb hs => ?_, fadd_of_isInf_left, fun ha hb h => ?_,
    fadd_of_sum_eq_zero, fadd_comm a b⟩, _, _, _, fadd_not_associative⟩
  · rw [fadd_of_isNaN h, isNaN_someNaN]
  · rw [fadd_of_isInf ha hb, if_neg (by rwa [beq_iff_eq]), isNaN_someNaN]
  · rw [fadd_of_isInf ha hb, if_pos (by rwa [beq_iff_eq])]
  · rw [fadd_of_isFinite ha hb, if_neg h]

/-! ### fmul -/

theorem fmul_of_isNaN {a b : F32} (h : isNaN a = true ∨ isNaN b = true) : fmul a b = someNaN :=
  if_pos (by rwa [Bool.or_eq_true])

/-- What is left of `fmul` where neither operand is a NaN. -/
theorem fmul_of_not_isNaN {a b : F32} (ha : isNaN a = false) (hb : isNaN b = false) :
    fmul a b =
      if (isZero a && isInf b) || (isInf a && isZero b) then someNaN
      else if isInf a || isInf b then withSign (f32Sign a != f32Sign b) posInf
      else rnd32 (f32Sign a != f32Sign b) (f32Mag a * f32Mag b) 149 :=
  if_neg (by rw [ha, hb]; decide)

theorem fmul_of_isZero_of_isInf {a b : F32} (ha : isZero a = true) (hb : isInf b = true) : fmul a b = someNaN := by
  rw [fmul_of_not_isNaN (isNaN_eq_false_of_isZero ha) (isNaN_eq_false_of_isInf hb), if_pos (by rw [ha, hb]; rfl)]

theorem fmul_of_isInf {a b : F32} (ha : isInf a = true) (hb : isNaN b = false) (hz : isZero b = false) :
    fmul a b = if f32Sign a = f32Sign b then posInf else negInf := by
  rw [fmul_of_not_isNaN (isNaN_eq_false_of_isInf ha) hb, isZero_eq_false_of_isInf ha, ha, hz]
  by_cases hs : f32Sign a = f32Sign b
  · rw [if_pos hs, hs, bne_self_eq_false]
    rfl
  · rw [if_neg hs, bne_iff_ne.mpr hs]
    rfl

theorem fmul_of_isFinite {a b : F32} (ha : isFinite a = true) (hb : isFinite b = true) :
    fmul a b = rnd32 (f32Sign a != f32Sign b) (f32Mag a * f32Mag b) 149 := by
  rw [fmul_of_not_isNaN (isNaN_eq_false_of_isFinite ha) (isNaN_eq_false_of_isFinite hb),
    isInf_eq_false_of_isFinite ha, isInf_eq_false_of_isFinite hb, Bool.and_false, Bool.false_and, Bool.or_false,
    if_neg Bool.false_ne_true, if_neg Bool.false_ne_true]

theorem fmul_of_product_eq_zero {a b : F32} (ha : isFinite a = true) (hb : isFinite b = true)
    (h : f32Mag a * f32Mag b = 0) : fmul a b = if f32Sign a = f32Sign b then posZero else negZero := by
  rw [fmul_of_isFinite ha hb, h, rnd32_zero]
  by_cases hs : f32Sign a = f32Sign b
  · rw [if_pos hs, hs, bne_self_eq_false]
    rfl
  · rw [if_neg hs, bne_iff_ne.mpr hs]
    rfl

theorem fmul_comm (a b : F32) : fmul a b = fmul b a := by
  unfold fmul
  rw [Bool.or_comm (isNaN b), Bool.or_comm (isInf b), Bool.or_comm (isZero b && isInf a), Bool.and_comm (isZero b),
    Bool.and_comm (isInf b), bne_comm (a := f32Sign b), Nat.mul_comm (f32Mag b)]

/-- Settles O41, case by case. -/
theorem fmulFollowsItsCases : Obligations.FmulFollowsItsCases := by
  refine fun a b => ⟨fun h => ?_, fun ha hb => ?_, fmul_of_isInf,
    fun ha hb => ⟨fmul_of_isFinite ha hb, fmul_of_product_eq_zero ha hb⟩, fmul_comm a b⟩
  · rw [fmul_of_isNaN h, isNaN_someNaN]
  · rw [fmul_of_isZero_of_isInf ha hb, isNaN_someNaN]

/-! ### fgt -/

theorem fgt_iff (a b : F32) : fgt a b = true ↔ isNaN a = false ∧ isNaN b = false ∧ f32Val b < f32Val a := by
  simp only [fgt, Bool.and_eq_true, Bool.not_eq_true', decide_eq_true_iff, and_assoc]

theorem fgt_eq_false_of_isNaN {a b : F32} (h : isNaN a = true ∨ isNaN b = true) : fgt a b = false := by
  rw [Bool.eq_false_iff, ne_eq, fgt_iff]
  rintro ⟨ha, hb, -⟩
  rw [ha, hb] at h
  exact h.elim Bool.false_ne_true Bool.false_ne_true

theorem fgt_eq_false_of_le {a b : F32} (h : f32Val a ≤ f32Val b) : fgt a b = false := by
  rw [Bool.eq_false_iff, ne_eq, fgt_iff]
  rintro ⟨-, -, hlt⟩
  exact not_lt.mpr h hlt

theorem fgt_of_isFinite {a b : F32} (ha : isFinite a = true) (hb : isFinite b = true) :
    fgt a b = true ↔ f32Val b < f32Val a := by
  rw [fgt_iff]
  have hab : isNaN a = false ∧ isNaN b = false := ⟨isNaN_eq_false_of_isFinite ha, isNaN_eq_false_of_isFinite hb⟩
  rw [← and_assoc, and_iff_right hab]

theorem fgt_trans {a b c : F32} (hab : fgt a b = true) (hbc : fgt b c = true) : fgt a c = true := by
  rw [fgt_iff] at *
  obtain ⟨ha, -, hba⟩ := hab
  obtain ⟨-, hc, hcb⟩ := hbc
  exact ⟨ha, hc, hcb.trans hba⟩

theorem fgt_infinities {b : F32} (h : isFinite b = true) :
    fgt posInf b = true ∧ fgt b negInf = true ∧ fgt b posInf = false := by
  obtain ⟨hlow, hhigh⟩ := f32Val_bounds h
  have hb := isNaN_eq_false_of_isFinite h
  exact ⟨(fgt_iff _ _).mpr ⟨rfl, hb, hhigh⟩, (fgt_iff _ _).mpr ⟨hb, rfl, hlow⟩, fgt_eq_false_of_le hhigh.le⟩

/-- Two words of which neither is greater have one value. -/
theorem f32Val_eq_of_not_fgt {a b : F32} (ha : isNaN a = false) (hb : isNaN b = false) (hab : fgt a b = false)
    (hba : fgt b a = false) : f32Val a = f32Val b := by
  rw [Bool.eq_false_iff, ne_eq, fgt_iff] at hab hba
  exact le_antisymm (not_lt.mp fun h => hab ⟨ha, hb, h⟩) (not_lt.mp fun h => hba ⟨hb, ha, h⟩)

/-- Settles O42: `fgt` compares values, and only the zeros are two words of one value. -/
theorem fgtIsTheOrderOfTheValues : Obligations.FgtIsTheOrderOfTheValues := by
  refine ⟨fun _ _ => fgt_eq_false_of_isNaN, fun a b ha hb => ?_, fun _ => fgt_infinities, by decide, by decide,
    fun _ _ => fgt_of_isFinite, fun _ _ _ => fgt_trans, fun a b ha hb hab hba => ?_⟩
  · rw [← f32Val_eq_zero_iff] at ha hb
    exact fgt_eq_false_of_le (by rw [ha, hb])
  · exact eq_or_isZero_of_f32Val_eq (f32Val_eq_of_not_fgt ha hb hab hba)

end Sys2Proof.Machine
end

section
/-! The configuration (R6 to R8): O44, O45 and O46. -/

namespace Sys2Proof.Machine

/-! ### The rate and the increments -/

theorem blockLen_bounds (c : Cfg) : 1 ≤ blockLen c ∧ blockLen c ≤ 65535 := by
  obtain ⟨hlow, hhigh⟩ := c.rate.property
  unfold blockLen
  omega

theorem blockLenWord_toNat (c : Cfg) : (blockLenWord c).toNat = blockLen c := by
  obtain ⟨-, hhigh⟩ := blockLen_bounds c
  rw [blockLenWord, BitVec.toNat_ofNat]
  omega

theorem configure_of_illegal_rate {rate : Nat} (freq : Lanes Freq) (diag : Bool)
    (h : ¬(100 ≤ rate ∧ rate ≤ 6553599)) : configure rate freq diag = .error .sampleRate := dif_neg h

/-- Settles O44. -/
theorem blockLengthIsLegal : Obligations.BlockLengthIsLegal := by
  refine ⟨fun c => ?_, fun rate freq diag h => configure_of_illegal_rate freq diag (by omega)⟩
  obtain ⟨hlow, hhigh⟩ := blockLen_bounds c
  refine ⟨?_, ?_, hlow, hhigh, blockLenWord_toNat c⟩ <;> unfold blockLen <;> omega

/-- What `configure` asks of the frequencies. -/
def LegalFreqs (rate : Nat) (freq : Lanes Freq) : Prop :=
  ∀ k : Lane, freq[k].den ≠ 0 ∧ freq[k].num < rate * freq[k].den

/-- The floor is at most 65535 exactly for a frequency below the rate (R7). -/
theorem legalInc_incOf_iff {rate : Nat} {f : Freq} (hrate : 0 < rate) (hden : f.den ≠ 0) :
    legalInc (incOf rate f) = true ↔ f.num < rate * f.den := by
  have hpos : 0 < f.den * rate := Nat.mul_pos (Nat.pos_of_ne_zero hden) hrate
  rw [legalInc, decide_eq_true_iff, ← Nat.lt_succ_iff, incOf, Nat.div_lt_iff_lt_mul hpos, Nat.mul_comm rate]
  omega

theorem lanes_all_iff (p : Lane → Bool) : lanes.all p = true ↔ ∀ k : Lane, p k = true := by
  have hmem : ∀ k : Lane, k ∈ lanes := by decide
  simp [List.all_eq_true, hmem]

/-- What `configure` answers for a legal rate. -/
theorem configure_of_legal_rate {rate : Nat} (freq : Lanes Freq) (diag : Bool) (h : 100 ≤ rate ∧ rate ≤ 6553599) :
    (LegalFreqs rate freq ∧ configure rate freq diag =
        .ok ⟨⟨rate, h⟩, Vector.ofFn fun k => BitVec.ofNat 16 (incOf rate freq[k]), diag⟩) ∨
      (¬LegalFreqs rate freq ∧ configure rate freq diag = .error .frequency) := by
  have hiff : lanes.all (fun k => decide (freq[k].den ≠ 0) && legalInc (incOf rate freq[k])) = true ↔
      LegalFreqs rate freq := by
    rw [lanes_all_iff]
    refine forall_congr' fun k => ?_
    rw [Bool.and_eq_true, decide_eq_true_iff]
    exact and_congr_right fun hden => legalInc_incOf_iff (by omega) hden
  by_cases hf : LegalFreqs rate freq
  · exact .inl ⟨hf, by rw [configure, dif_pos h, if_pos (hiff.mpr hf)]⟩
  · exact .inr ⟨hf, by rw [configure, dif_pos h, if_neg (hiff.not.mpr hf)]⟩

/-- The increment as the phase adder holds it is the floor of `FREQ * 65536 / SAMPLE_RATE` (R7). -/
theorem incOf_word_bounds {rate : Nat} {f : Freq} (hrate : 0 < rate) (hden : f.den ≠ 0) (hlt : f.num < rate * f.den) :
    (BitVec.ofNat 16 (incOf rate f)).toNat * (rate * f.den) ≤ f.num * 65536 ∧
      f.num * 65536 < ((BitVec.ofNat 16 (incOf rate f)).toNat + 1) * (rate * f.den) := by
  have hpos : 0 < f.den * rate := Nat.mul_pos (Nat.pos_of_ne_zero hden) hrate
  have hword : (BitVec.ofNat 16 (incOf rate f)).toNat = incOf rate f := by
    have hle := (legalInc_incOf_iff hrate hden).mpr hlt
    rw [legalInc, decide_eq_true_iff] at hle
    rw [BitVec.toNat_ofNat]
    omega
  rw [hword, incOf, Nat.mul_comm rate]
  exact ⟨Nat.div_mul_le_self _ _, by rw [Nat.mul_comm (_ + 1)]; exact Nat.lt_mul_div_succ _ hpos⟩

/-- Settles O45. -/
theorem incrementsAreFloored : Obligations.IncrementsAreFloored := by
  intro rate freq diag hlow hhigh
  rcases configure_of_legal_rate freq diag ⟨hlow, hhigh⟩ with ⟨hf, hc⟩ | ⟨hf, hc⟩
  · rw [hc]
    refine ⟨⟨fun _ => hf, fun _ => ⟨_, rfl⟩⟩, fun c hok => ?_⟩
    obtain rfl := Except.ok.inj hok
    refine ⟨rfl, rfl, fun k => ?_⟩
    obtain ⟨hden, hlt⟩ := hf k
    simpa using incOf_word_bounds (by omega) hden hlt
  · rw [hc]
    refine ⟨⟨?_, fun hall => absurd hall hf⟩, fun c hok => ?_⟩
    · rintro ⟨c, hok⟩
      cases hok
    · cases hok

/-! ### The constants of the datapath -/

/-- `C_SCALE` is `BLOCKLEN * 2^150` units, far below the largest finite magnitude and with no more than 16 significant
bits (R8). -/
theorem cScale_isFinite_and_mag (c : Cfg) : isFinite (cScale c) = true ∧ f32Mag (cScale c) = blockLen c * 2 ^ 150 := by
  obtain ⟨-, hhigh⟩ := blockLen_bounds c
  have hunits : 4 * blockLen c * 2 ^ 148 = blockLen c * 2 ^ 150 := by omega
  have hlt : blockLen c * 2 ^ 150 < (2 ^ 25 - 1) * 2 ^ (252 + 0) :=
    Nat.lt_of_le_of_lt (Nat.mul_le_mul_right _ hhigh) (by decide)
  rw [cScale, hunits]
  refine ⟨(rnd32_isFinite_iff _ _ _).mpr hlt, ?_⟩
  simpa using f32Mag_rnd32_of_dvd (neg := false) hlt (place_dvd (by omega) (Nat.zero_le _))

theorem cScale_val (c : Cfg) : f32Val (cScale c) = blockLen c * 2 ^ 150 := by
  have hsign : f32Sign (cScale c) = false := rnd32_sign _ _ _
  rw [f32Val_of_nonneg hsign, (cScale_isFinite_and_mag c).2]
  norm_cast

/-- No value lies between that of a positive word and that of the word before it. -/
theorem f32Val_le_or_ge {w : F32} (hs : f32Sign w = false) (y : F32) :
    f32Val y ≤ (magOfBits (magBits w - 1) : Int) ∨ f32Val w ≤ f32Val y := by
  rw [f32Val_of_nonneg hs, f32Mag_eq]
  cases hy : f32Sign y
  · rw [f32Val_of_nonneg hy, f32Mag_eq, Nat.cast_le, Nat.cast_le]
    rcases Nat.lt_or_ge (magBits y) (magBits w) with h | h
    · exact .inl (magOfBits_le (Nat.le_sub_one_of_lt h))
    · exact .inr (magOfBits_le h)
  · rw [f32Val_of_neg hy]
    exact .inl ((Int.neg_nonpos_of_nonneg (Int.natCast_nonneg _)).trans (Int.natCast_nonneg _))

/-- A positive word `w` is nearest to `t / 10` (in units of `2^-149`) where `t / 10` lies at or below it, and no nearer to
the word before it. -/
theorem nearest_to_tenths {w : F32} {t : Int} (hs : f32Sign w = false) (hw : t ≤ 10 * f32Val w)
    (hnear : 10 * (magOfBits (magBits w - 1) : Int) + 10 * f32Val w ≤ 2 * t) (y : F32) :
    (10 * f32Val w - t).natAbs ≤ (10 * f32Val y - t).natAbs := by
  rcases f32Val_le_or_ge hs y with h | h <;> omega

/-- Settles O46: `C_SCALE` loses no bit, and the two thresholds lie just above 0.1 and 0.4. -/
theorem datapathConstantsAreExact : Obligations.DatapathConstantsAreExact := by
  refine ⟨fun c => ⟨(cScale_isFinite_and_mag c).1, ?_⟩, by decide, rfl, rfl, by decide,
    by decide, fun y _ => ⟨?_, ?_⟩⟩
  · rw [cScale_val]
    ring
  · exact nearest_to_tenths (w := cFloor) (by decide) (by decide) (by decide) y
  · exact nearest_to_tenths (w := cSig) (by decide) (by decide) (by decide) y

end Sys2Proof.Machine
end

section
/-! Which operation a step runs (R17, R56, R60): O5 and O7. -/

namespace Sys2Proof.Machine

/-! ### One step -/

theorem step_of_micro {s : State} {u : MicroLabel} (hm : s.micro = some u) :
    step s = exec (decodeU u) (s.setMicro none) := by
  cases s
  cases hm
  rfl

theorem step_of_no_word {s : State} (hm : s.micro = none) (hi : s.input = []) : step s = exec .idle s := by
  cases s
  cases hm
  cases hi
  rfl

theorem step_of_word {s : State} {w : TransactionWord} {rest : List TransactionWord} (hm : s.micro = none)
    (hi : s.input = w :: rest) : step s = exec (decodeTW w) (s.setInput rest) := by
  cases s
  cases hm
  cases hi
  rfl

/-- Settles O5: the three cases of `fetch`. -/
theorem stepRunsTheDecodedOperation : Obligations.StepRunsTheDecodedOperation := by
  refine fun s => ⟨?_, step_of_no_word, ?_⟩
  · rintro w rest _ hm hi rfl
    exact step_of_word hm hi
  · rintro u _ hm rfl
    exact step_of_micro hm

/-! ### The words the host presents -/

/-- The word of a host operation is read as that operation (R73, R82). -/
theorem decodeTW_encodeTW {i : Instr} (h : i.hostSelectable = true) : decodeTW (encodeTW i) = i := by
  cases i
  case init => rfl
  case idle => rfl
  case sample x =>
    have hx := x.isLt
    have hinit : twInit (encodeTW (.sample x)) = false := by
      simp only [twInit, encodeTW, encode, BitVec.getLsbD_ofNat, Nat.testBit_eq_decide_div_mod_eq]
      simp only [Bool.and_eq_false_imp, decide_eq_false_iff_not]
      omega
    have hvalid : twValid (encodeTW (.sample x)) = true := by
      simp only [twValid, encodeTW, encode, BitVec.getLsbD_ofNat, Nat.testBit_eq_decide_div_mod_eq]
      simp only [Bool.and_eq_true, decide_eq_true_iff]
      omega
    have hdata : twData (encodeTW (.sample x)) = x := by
      apply BitVec.eq_of_toNat_eq
      simp only [twData, encodeTW, encode, BitVec.extractLsb'_toNat, BitVec.toNat_ofNat, Nat.shiftRight_zero]
      omega
    rw [decodeTW, hinit, hvalid, hdata]
    rfl
  all_goals cases h

/-- With the word of `i` first among those presented, a step runs `i` and leaves the rest. -/
theorem step_presented {i : Instr} {s : State} (rest : List TransactionWord) (hi : i.hostSelectable = true)
    (hm : s.micro = none) : step (s.setInput (encodeTW i :: rest)) = exec i (s.setInput rest) := by
  have hstep := step_of_word (s := s.setInput (encodeTW i :: rest)) hm rfl
  rwa [decodeTW_encodeTW hi] at hstep

theorem setInput_self {s : State} {words : List TransactionWord} (h : s.input = words) : s.setInput words = s := by
  rw [← h]
  rfl

/-- A run of steps ends at a refusal. -/
theorem core_run_refused (n : Nat) {s : State} {r : Refusal} (h : step s = .refused r) :
    Host.Core.run core (n + 1) s = .refused r := by
  have hc : core.step s = .refused r := h
  simp only [Host.Core.run, hc]

theorem runOps_cons (i : Instr) (rest : List Instr) (s : State) :
    runOps (i :: rest) s =
      match exec i s with
      | .next t => runOps rest t
      | .fault r => .fault r
      | .refused r => .refused r := rfl

theorem runOps_next {i : Instr} {s t : State} (rest : List Instr) (h : exec i s = .next t) :
    runOps (i :: rest) s = runOps rest t := by
  rw [runOps_cons, h]

theorem runOps_refused {i : Instr} {s : State} {r : Refusal} (rest : List Instr) (h : exec i s = .refused r) :
    runOps (i :: rest) s = .refused r := by
  rw [runOps_cons, h]

/-- Running the presented words step by step is running the operations, each step keeping that none but them is left to
present. -/
theorem run_setInput_eq_runOps (ops : List Instr) (s : State) (hops : ∀ i ∈ ops, i.hostSelectable = true)
    (hm : s.micro = none) (hin : s.input = []) :
    Host.Core.run core ops.length (s.setInput (ops.map encodeTW)) = runOps ops s := by
  induction ops generalizing s with
  | nil => exact congrArg Host.Outcome.next (setInput_self hin)
  | cons i rest ih =>
    obtain ⟨hi, hrest⟩ := List.forall_mem_cons.mp hops
    have hstep : step (s.setInput ((i :: rest).map encodeTW)) = _ :=
      (step_presented (rest.map encodeTW) hi hm).trans (exec_setInput i s _)
    cases he : exec i s with
    | next t =>
      obtain ⟨htin, htm, -, -⟩ := exec_keeps he
      rw [he] at hstep
      have hfirst := core_run_next rest.length hstep
      have hothers := ih t hrest (htm.trans hm) (htin.trans hin)
      exact hfirst.trans (hothers.trans (runOps_next rest he).symm)
    | fault r => cases r
    | refused r =>
      rw [he] at hstep
      exact (core_run_refused _ hstep).trans (runOps_refused rest he).symm

/-- Settles O7, by induction on the operations. -/
theorem presentedOperationsRunInOrder : Obligations.PresentedOperationsRunInOrder := by
  intro ops s hops hm hin
  rw [present, hin, List.nil_append]
  exact run_setInput_eq_runOps ops s hops hm hin

end Sys2Proof.Machine
end

section
/-! What the operations keep (R21 to R31, R65): O10, O29, O48, O49, O51 and O57, and the invariant step O50. -/

namespace Sys2Proof.Machine

/-! ### The values of INIT -/

theorem posZero_ne_negZero : posZero ≠ negZero := by decide

theorem zero_noNegZero : NoNegZero Block.zero := by
  refine ⟨posZero_ne_negZero, fun k => ?_⟩
  rw [Fin.getElem_fin, Fin.getElem_fin, zero_i, zero_q]
  exact ⟨posZero_ne_negZero, posZero_ne_negZero⟩

/-- What holds of the zero block holds of every slot of the window after `INIT`. -/
theorem forall_zeroWindow {p : Block → Prop} (h : p Block.zero) (b : Slot) : p ((Vector.replicate 4 Block.zero)[b]'b.isLt) :=
  (Vector.getElem_replicate (a := Block.zero) b.isLt).symm ▸ h

/-- `INIT` writes the values of R34, whatever stood there before. -/
theorem writeResetValues_hasResetValues (s : State) : HasResetValues (writeResetValues s) :=
  ⟨fun k => Vector.getElem_replicate k.isLt, rfl, fun k => ⟨zero_i k k.isLt, zero_q k k.isLt⟩,
    forall_zeroWindow (p := fun b => b.e = posZero) rfl,
    forall_zeroWindow (p := fun b => ∀ k : Lane, b.i[k]'k.isLt = posZero ∧ b.q[k]'k.isLt = posZero)
      fun k => ⟨zero_i k k.isLt, zero_q k k.isLt⟩,
    blockLenWord_toNat s.cfg, rfl, rfl⟩

/-- The countdown reloaded, `last` well formed and no sum `-0`, as `INIT` and a closure leave them. -/
theorem live_of_reload {s : State} (hcnt : s.cnt = blockLenWord s.cfg) (hlast : decWellFormed s.last = true)
    (hacc : NoNegZero s.acc) (hwin : ∀ b : Slot, NoNegZero (s.win[b]'b.isLt)) : Live s := by
  obtain ⟨hlow, -⟩ := blockLen_bounds s.cfg
  refine ⟨?_, ?_, hlast, hacc, hwin⟩ <;> rw [hcnt, blockLenWord_toNat]
  exact hlow

theorem writeResetValues_live (s : State) : Live (writeResetValues s) := by
  have hlast : decWellFormed 0x000#10 = true := by decide
  exact live_of_reload rfl hlast zero_noNegZero (forall_zeroWindow zero_noNegZero)

/-- Settles O10. -/
theorem initWritesEveryElement : Obligations.InitWritesEveryElement := by
  intro s
  obtain ⟨hinput, hmicro, hcfg, -⟩ := exec_keeps (exec_init s)
  exact ⟨_, exec_init s, writeResetValues_hasResetValues _, hcfg, rfl, rfl, rfl, hinput, hmicro⟩

/-- Settles O51: reset is `INIT` from any state of the reference configuration. -/
theorem resetMeetsTheInvariant : Obligations.ResetMeetsTheInvariant :=
  ⟨rfl, rfl, rfl, .inl rfl, fun _ => writeResetValues_live State.reset⟩

/-! ### Frames -/

theorem hostSelectable_cases {i : Instr} (h : i.hostSelectable = true) : i = .init ∨ i = .idle ∨ ∃ x, i = .sample x := by
  cases i
  case init => exact .inl rfl
  case idle => exact .inr (.inl rfl)
  case sample x => exact .inr (.inr ⟨x, rfl⟩)
  all_goals cases h

/-- A host operation looks at nothing that its start writes: the ports and the transients. -/
theorem exec_eq_of_startOperation_eq {i : Instr} {s t : State} (hi : i.hostSelectable = true)
    (h : startOperation s = startOperation t) : exec i s = exec i t := by
  obtain rfl | rfl | ⟨x, rfl⟩ := hostSelectable_cases hi
  · rw [exec_init, exec_init, h]
  · rw [exec_idle, exec_idle, h]
  · have hinited : (startOperation s).inited = (startOperation t).inited := congrArg State.inited h
    have hsample : sampleOp x s = sampleOp x t := by rw [sampleOp, sampleOp, afterCount, afterCount, h]
    rcases Bool.eq_false_or_eq_true t.inited with ht | ht
    · rw [exec_sample x t ht, exec_sample x s (hinited.trans ht), hsample]
    · rw [exec_sample_refused x t ht, exec_sample_refused x s (hinited.trans ht)]

/-- Settles O29. -/
theorem portsAndTransientsDoNotReachAnOperation : Obligations.PortsAndTransientsDoNotReachAnOperation :=
  fun _ _ _ _ _ hi => exec_eq_of_startOperation_eq hi rfl

/-- Settles O48, instruction by instruction: each writes what its equation in Laws/Ops.lean says and keeps the rest. -/
theorem onlyTheWritersChangeAnElement : Obligations.OnlyTheWritersChangeAnElement := by
  intro i s t h hsample hinit
  cases i
  case sample x => exact absurd rfl (hsample x)
  case init => exact absurd rfl hinit
  all_goals
    cases h
    simp [startOperation_eq, refOp_eq, accumOp_eq, advanceOp_eq, countOp_eq, closeOp_eq, aggregateOp_eq, selectOp_eq,
      reportOp_eq]

/-! ### Steps -/

/-- What `fetch` does to the state: it takes at most one word, from the front, and clears the selector. -/
theorem fetch_keeps (s : State) :
    (fetch s).2.cfg = s.cfg ∧ (fetch s).2.micro = none ∧ (fetch s).2.inited = s.inited ∧
      ∃ taken : List TransactionWord, s.input = taken ++ (fetch s).2.input ∧ taken.length ≤ 1 := by
  unfold fetch
  cases hm : s.micro with
  | some u => exact ⟨rfl, rfl, rfl, [], rfl, Nat.zero_le 1⟩
  | none =>
    cases hi : s.input with
    | nil => exact ⟨rfl, hm, rfl, [], hi.symm, Nat.zero_le 1⟩
    | cons w rest => exact ⟨rfl, hm, rfl, [w], rfl, le_rfl⟩

/-- Settles O49. -/
theorem configurationIsImmutable : Obligations.ConfigurationIsImmutable := by
  intro s t h
  obtain ⟨hinput, hmicro, hcfg, hinited⟩ := exec_keeps h
  obtain ⟨hfcfg, hfmicro, hfinited, htaken⟩ := fetch_keeps s
  rw [hinput, hmicro, hcfg]
  exact ⟨hfcfg, hfmicro, fun hs => hinited (hfinited.trans hs), htaken⟩

theorem stepInstance_of_step {n : Nat} {system : List State} {s t : State} (hs : system[n]? = some s)
    (ht : step s = .next t) : stepInstance n system = some (system.set n t) := by
  simp only [stepInstance, hs, ht]

/-- Where an instance's step answers, that instance answers a next state, and nothing else is written. -/
theorem exists_step_of_stepInstance {n : Nat} {system one : List State} (h : stepInstance n system = some one) :
    ∃ s t : State, system[n]? = some s ∧ step s = .next t ∧ system.set n t = one := by
  cases hs : system[n]? with
  | none =>
    simp only [stepInstance, hs] at h
    cases h
  | some s =>
    cases ht : step s with
    | next t => exact ⟨s, t, rfl, ht, Option.some.inj ((stepInstance_of_step hs ht).symm.trans h)⟩
    | fault r => cases r
    | refused r =>
      simp only [stepInstance, hs, ht] at h
      cases h

/-- Settles O57: a step writes one place of the list, and writes at two places commute. -/
theorem instancesDoNotInteract : Obligations.InstancesDoNotInteract := by
  intro a b system one two hab hone
  obtain ⟨s, t, hs, ht, rfl⟩ := exists_step_of_stepInstance hone
  refine ⟨List.getElem?_set_ne hab, fun htwo => ?_⟩
  obtain ⟨u, v, hu, hv, rfl⟩ := exists_step_of_stepInstance htwo
  rw [List.getElem?_set_ne hab] at hu
  have hs' : (system.set b v)[a]? = some s := (List.getElem?_set_ne hab.symm).trans hs
  refine ⟨system.set b v, stepInstance_of_step hu hv, ?_⟩
  rw [stepInstance_of_step hs' ht, List.set_comm t v hab]

end Sys2Proof.Machine
end

section
/-! Every step keeps the invariant (R24, R25, R71, R123, R172): O50. The sums never reach `-0`, and the two peaks of a Pair
are two lanes. -/

namespace Sys2Proof.Machine

/-! ### No sum is -0 -/

/-- A whole number of units of `2^-149` other than zero is not rounded to a zero. -/
theorem rnd32_ne_negZero (neg : Bool) {n : Nat} (hn : n ≠ 0) : rnd32 neg n 0 ≠ negZero := by
  intro h
  have hzero := (isZero_iff _).mp ((eq_negZero_iff _).mp h).2
  rw [rnd32_magBits] at hzero
  have htwice : 1 < 2 * n := Nat.lt_of_lt_of_le Nat.one_lt_two (Nat.le_mul_of_pos_right 2 (Nat.pos_of_ne_zero hn))
  have hpos : 0 < roundBits n 0 := (lt_roundBits_iff n 0 0).mpr (.inl htwice)
  exact (lt_min hpos (by decide)).ne' hzero

/-- An addition gives `-0` only from two `-0`: a sum that begins at `+0` never does (R123). -/
theorem fadd_ne_negZero {a : F32} (ha : a ≠ negZero) (b : F32) : fadd a b ≠ negZero := by
  unfold fadd
  split_ifs with hnan hinf hsame hinfa hinfb hsum hsigns
  · decide
  · exact ha
  · decide
  · exact ha
  · rintro rfl
    exact absurd hinfb (by decide)
  · exact absurd ((signs_iff_negZero_of_sum_eq_zero hsum).mp hsigns).1 ha
  · decide
  · exact rnd32_ne_negZero _ (Int.natAbs_ne_zero.mpr hsum)

theorem sampledBlock_noNegZero (x : F32) {s : State} (h : NoNegZero s.acc) : NoNegZero (sampledBlock x s) := by
  obtain ⟨he, hiq⟩ := h
  refine ⟨fadd_ne_negZero he _, fun k => ?_⟩
  obtain ⟨hi, hq⟩ := hiq k
  simp only [Fin.getElem_fin, sampledBlock_i, sampledBlock_q]
  exact ⟨fadd_ne_negZero hi _, fadd_ne_negZero hq _⟩

theorem forall_slot {p : Slot → Prop} (h0 : p 0) (h1 : p 1) (h2 : p 2) (h3 : p 3) (b : Slot) : p b := by
  rcases b with ⟨_ | _ | _ | _ | n, hb⟩
  · exact h0
  · exact h1
  · exact h2
  · exact h3
  · exact absurd hb (Nat.not_lt.mpr (Nat.le_add_left 4 n))

/-- What holds of every slot after a closure: of the block pushed and of the slots before. -/
theorem forall_pushBlock {p : Block → Prop} {b : Block} {win : Vector Block 4} (hb : p b)
    (hwin : ∀ i : Slot, p (win[i]'i.isLt)) : ∀ i : Slot, p ((pushBlock b win)[i]'i.isLt) :=
  forall_slot hb (hwin 0) (hwin 1) (hwin 2)

/-! ### The decision word of a closure -/

/-- A scan never takes the lane it ignores (R152). -/
theorem scanPeak_ne_ignored (m : Lanes F32) (i : Lane) : scanPeak m (some i) ≠ some i := by
  have hfold (ks : List Lane) (best : F32 × Option Lane) (hbest : best.2 ≠ some i) :
      (ks.foldl (scanLane m (some i)) best).2 ≠ some i := by
    induction ks generalizing best with
    | nil => exact hbest
    | cons k ks ih =>
      refine ih _ ?_
      unfold scanLane
      split
      case isTrue h => exact h.1.symm
      case isFalse => exact hbest
  exact hfold lanes (posZero, none) (Option.some_ne_none i).symm

theorem normalisedPair_wellFormed : ∀ i j : Lane, j ≠ i → decWellFormed (decWord (normalisedPair i j)) = true := by decide

/-- `SELECT` decides nothing but the well-formed words of R75. -/
theorem selectDecision_wellFormed (m : Lanes F32) (totE : F32) :
    decWellFormed (decWord (selectDecision m totE).1) = true := by
  have hno : decWellFormed (decWord .noSignal) = true := by decide
  have hambiguous : decWellFormed (decWord .ambiguous) = true := by decide
  unfold selectDecision
  split
  case h_1 => exact hno
  case h_2 i _ =>
    split
    case h_1 => exact hno
    case h_2 j hj =>
      have hji : j ≠ i := fun h => scanPeak_ne_ignored m i (h ▸ hj)
      split_ifs
      · exact hambiguous
      · exact hno
      · exact normalisedPair_wellFormed i j hji

/-! ### The invariant -/

/-- A countdown that has not run out counts at least one sample more (R125). -/
theorem countdown_open {n : BitVec 16} (hlow : 1 ≤ n.toNat) (h : n - 1#16 ≠ 0#16) :
    1 ≤ (n - 1#16).toNat ∧ (n - 1#16).toNat + 1 = n.toNat := by
  rw [ne_eq, countdown_eq_zero] at h
  rw [countdown_toNat n hlow]
  exact ⟨Nat.le_sub_one_of_lt (lt_of_le_of_ne hlow (Ne.symm h)), Nat.sub_add_cancel hlow⟩

/-- What `REPORT` puts on the port is the word of the Pair it leaves in `last` (R172, R173). -/
theorem eventIsLast_of_eventOf {s : State} {previous : DecWord} (h : s.evt = eventOf previous s.last) : EventIsLast s := by
  rw [EventIsLast, h, Option.all_eq_true]
  intro w hw
  obtain ⟨hpair, -, hword⟩ := eventOf_eq_some.mp hw
  rw [hpair, hword]
  exact beq_self_eq_true w

theorem exec_init_keeps_inv {s t : State} (hinv : Inv s) (h : exec .init s = .next t) : Inv t := by
  obtain ⟨hmicro, -⟩ := hinv
  obtain ⟨-, hsame, -⟩ := exec_keeps h
  cases h
  exact ⟨hsame.trans hmicro, rfl, rfl, .inl rfl, fun _ => writeResetValues_live _⟩

theorem exec_idle_keeps_inv {s t : State} (hinv : Inv s) (h : exec .idle s = .next t) : Inv t := by
  cases h
  obtain ⟨hmicro, -, -, -, hlive⟩ := hinv
  exact ⟨hmicro, rfl, rfl, .inl rfl, hlive⟩

theorem exec_sample_keeps_inv {x : F32} {s t : State} (hinv : Inv s) (h : exec (.sample x) s = .next t) : Inv t := by
  obtain ⟨hinited, rfl⟩ := exec_sample_next h
  obtain ⟨hmicro, -, -, -, hlive⟩ := hinv
  obtain ⟨hlow, hhigh, hlast, hacc, hwin⟩ := hlive hinited
  by_cases hc : s.cnt - 1#16 = 0#16
  · rw [sampleOp_closing x s hc]
    refine ⟨hmicro, rfl, eventIsLast_of_eventOf rfl, ?_, fun _ => ?_⟩
    · cases hdiag : s.cfg.diag
      · exact .inl rfl
      · exact .inr rfl
    · exact live_of_reload rfl (selectDecision_wellFormed _ _) zero_noNegZero
        (forall_pushBlock (sampledBlock_noNegZero x hacc) hwin)
  · rw [sampleOp_open x s hc]
    obtain ⟨hleft, hsucc⟩ := countdown_open hlow hc
    have hmost : (s.cnt - 1#16).toNat ≤ blockLen s.cfg := Nat.le_of_succ_le (hsucc.le.trans hhigh)
    exact ⟨hmicro, rfl, rfl, .inl rfl, fun _ => ⟨hleft, hmost, hlast, sampledBlock_noNegZero x hacc, hwin⟩⟩

theorem exec_keeps_inv {i : Instr} {s t : State} (hi : i.hostSelectable = true) (hinv : Inv s)
    (h : exec i s = .next t) : Inv t := by
  obtain rfl | rfl | ⟨x, rfl⟩ := hostSelectable_cases hi
  · exact exec_init_keeps_inv hinv h
  · exact exec_idle_keeps_inv hinv h
  · exact exec_sample_keeps_inv hinv h

theorem decodeTW_hostSelectable (w : TransactionWord) : (decodeTW w).hostSelectable = true := by
  unfold decodeTW
  split_ifs <;> rfl

/-- Settles O50: with no micro-step selected a step runs a host operation, and `Inv` does not speak of the words still to
present. -/
theorem everyStepKeepsTheInvariant : Obligations.EveryStepKeepsTheInvariant := by
  intro s t hinv h
  obtain ⟨hmicro, -⟩ := id hinv
  cases hin : s.input with
  | nil =>
    rw [step_of_no_word hmicro hin] at h
    exact exec_keeps_inv rfl hinv h
  | cons w rest =>
    rw [step_of_word hmicro hin] at h
    have hrest : Inv (s.setInput rest) := hinv
    exact exec_keeps_inv (decodeTW_hostSelectable w) hrest h

end Sys2Proof.Machine
end

section
/-! The state after `INIT` and some samples in closed form (R36, R107): O52. `AfterSamples` names the number of closures, so
that a step is stated without a division. -/

namespace Sys2Proof.Machine

/-! ### Block sums -/

theorem sumInOrder_concat (terms : List F32) (y : F32) : sumInOrder (terms ++ [y]) = fadd (sumInOrder terms) y :=
  List.foldl_append

theorem ofFn_lane {α : Type} (f : Lane → α) (k : Lane) : (Vector.ofFn f)[k]'k.isLt = f k := Vector.getElem_ofFn k.isLt

theorem zero_eq_ofFn :
    Block.zero = ⟨posZero, Vector.ofFn fun _ => posZero, Vector.ofFn fun _ => posZero⟩ := rfl

theorem blockOf_nil (c : Cfg) (start : Nat) : blockOf c start [] = Block.zero := rfl

theorem phasesAfter_zero (c : Cfg) : Vector.ofFn (phaseAfter c 0) = Vector.replicate 10 0#16 := by
  have hzero : phaseAfter c 0 = fun _ => 0#16 := funext fun k => by rw [phaseAfter, Nat.zero_mul]
  rw [hzero]
  rfl

theorem advancedPhases_phasesAfter (c : Cfg) (n : Nat) :
    advancedPhases c.inc (Vector.ofFn (phaseAfter c n)) = Vector.ofFn (phaseAfter c (n + 1)) := by
  refine congrArg Vector.ofFn (funext fun k => ?_)
  rw [ofFn_lane, phaseAfter, phaseAfter, Nat.add_one_mul, BitVec.ofNat_add, BitVec.ofNat_toNat, BitVec.setWidth_eq]

/-- One more sample, against the references of the phases it meets, is one more term of every sum (R107, R123). -/
theorem accumBlock_blockOf (c : Cfg) (start : Nat) (xs : List F32) (x : F32) :
    accumBlock (blockOf c start xs) (cosRefs (Vector.ofFn (phaseAfter c (start + xs.length))))
      (sinRefs (Vector.ofFn (phaseAfter c (start + xs.length)))) x = blockOf c start (xs ++ [x]) := by
  simp only [accumBlock, accumulate, blockOf, cosRefs, sinRefs, ofFn_lane, List.map_append, List.map_cons, List.map_nil,
    List.mapIdx_concat, sumInOrder_concat]

/-! ### The window after some closures -/

/-- The record in the slot of age `b` after `q` closures: what `slotAfter` says, with the number of closures given. -/
def slotOf (c : Cfg) (xs : List F32) (q b : Nat) : Block :=
  if b < q then
    blockOf c ((q - b - 1) * blockLen c) ((xs.drop ((q - b - 1) * blockLen c)).take (blockLen c))
  else Block.zero

theorem slotAfter_eq (c : Cfg) (xs : List F32) (b : Slot) : slotAfter c xs b = slotOf c xs (xs.length / blockLen c) b := rfl

theorem slotOf_closed (c : Cfg) (xs : List F32) {q b : Nat} (h : b < q) :
    slotOf c xs q b =
      blockOf c ((q - b - 1) * blockLen c) ((xs.drop ((q - b - 1) * blockLen c)).take (blockLen c)) := if_pos h

theorem slotOf_empty (c : Cfg) (xs : List F32) {q b : Nat} (h : ¬b < q) : slotOf c xs q b = Block.zero := if_neg h

/-- A closure makes every closed block one older. -/
theorem slotOf_older (c : Cfg) (xs : List F32) (q b : Nat) : slotOf c xs (q + 1) (b + 1) = slotOf c xs q b := by
  by_cases h : b < q
  · rw [slotOf_closed c xs h, slotOf_closed c xs (Nat.add_lt_add_right h 1), Nat.add_sub_add_right]
  · rw [slotOf_empty c xs h, slotOf_empty c xs (mt Nat.lt_of_succ_lt_succ h)]

/-- Later samples do not change the blocks already closed. -/
theorem slotOf_append {c : Cfg} {xs : List F32} {q : Nat} (hq : q * blockLen c ≤ xs.length) (ys : List F32) (b : Nat) :
    slotOf c (xs ++ ys) q b = slotOf c xs q b := by
  by_cases h : b < q
  · have hlast : q - b - 1 + 1 ≤ q := Nat.sub_one_lt_of_le (Nat.sub_pos_of_lt h) (Nat.sub_le q b)
    have hend : (q - b - 1) * blockLen c + blockLen c ≤ xs.length :=
      (Nat.succ_mul _ _).symm.le.trans ((Nat.mul_le_mul_right _ hlast).trans hq)
    have htake : blockLen c ≤ (xs.drop ((q - b - 1) * blockLen c)).length :=
      List.length_drop.symm ▸ Nat.le_sub_of_add_le' hend
    rw [slotOf_closed c xs h, slotOf_closed c _ h, List.drop_append_of_le_length ((Nat.le_add_right _ _).trans hend),
      List.take_append_of_le_length htake]
  · rw [slotOf_empty c xs h, slotOf_empty c _ h]

/-- The block that a closure pushes: the last `BLOCKLEN` samples. -/
theorem slotOf_newest {c : Cfg} {xs : List F32} {q : Nat} (h : xs.length = (q + 1) * blockLen c) :
    slotOf c xs (q + 1) 0 = blockOf c (q * blockLen c) (xs.drop (q * blockLen c)) := by
  have hall : (xs.drop (q * blockLen c)).length ≤ blockLen c := by
    rw [List.length_drop, h, Nat.add_one_mul, Nat.add_sub_cancel_left]
  exact (slotOf_closed c xs q.succ_pos).trans (congrArg _ (List.take_of_length_le hall))

/-- The window after `q` closures (R36). -/
def windowOf (c : Cfg) (xs : List F32) (q : Nat) : Vector Block 4 :=
  #v[slotOf c xs q 0, slotOf c xs q 1, slotOf c xs q 2, slotOf c xs q 3]

theorem windowOf_eq (c : Cfg) (xs : List F32) (q : Nat) :
    windowOf c xs q = #v[slotOf c xs q 0, slotOf c xs q 1, slotOf c xs q 2, slotOf c xs q 3] := rfl

theorem windowOf_slot (c : Cfg) (xs : List F32) (q : Nat) : ∀ b : Slot, (windowOf c xs q)[b]'b.isLt = slotOf c xs q b :=
  forall_slot rfl rfl rfl rfl

theorem windowOf_no_closure (c : Cfg) (xs : List F32) : windowOf c xs 0 = Vector.replicate 4 Block.zero := by
  simp only [windowOf_eq, slotOf_empty c xs (Nat.not_lt_zero _)]
  rfl

theorem windowOf_append {c : Cfg} {xs : List F32} {q : Nat} (hq : q * blockLen c ≤ xs.length) (ys : List F32) :
    windowOf c (xs ++ ys) q = windowOf c xs q := by
  simp only [windowOf_eq, slotOf_append hq]

/-- A closure pushes its block before those of the closures before. -/
theorem pushBlock_windowOf (c : Cfg) (xs : List F32) (q : Nat) :
    pushBlock (slotOf c xs (q + 1) 0) (windowOf c xs q) = windowOf c xs (q + 1) := by
  rw [windowOf_eq, windowOf_eq, slotOf_older c xs q 0, slotOf_older c xs q 1, slotOf_older c xs q 2]
  rfl

/-! ### The countdown and the number of closures -/

/-- No more samples are closed than there are: `len` the block length, `cnt` the countdown, `q` the closures. -/
theorem closed_le {n cnt len q : Nat} (hhigh : cnt ≤ len) (h : n + cnt = (q + 1) * len) : q * len ≤ n := by
  rw [Nat.add_one_mul] at h
  exact Nat.le_of_add_le_add_right (h ▸ Nat.add_le_add_left hhigh (q * len))

/-- The number of closures and the countdown, by division (R36). -/
theorem div_mod_of_countdown {n cnt len q : Nat} (hlow : 1 ≤ cnt) (hhigh : cnt ≤ len) (h : n + cnt = (q + 1) * len) :
    n / len = q ∧ cnt = len - n % len := by
  have hdiv : n / len = q := Nat.div_eq_of_lt_le (closed_le hhigh h) (h ▸ Nat.lt_add_of_pos_right hlow)
  have hmod : q * len + n % len = n := hdiv ▸ Nat.div_add_mod' n len
  have hrem : q * len + (n % len + cnt) = q * len + len := by rw [← Nat.add_assoc, hmod, h, Nat.add_one_mul]
  exact ⟨hdiv, Nat.eq_sub_of_add_eq' (Nat.add_left_cancel hrem)⟩

/-! ### The state after some samples -/

/-- The state after the samples `xs` from `INIT`, `q` of which closed a block (R36). -/
def AfterSamples (c : Cfg) (xs : List F32) (q : Nat) (s : State) : Prop :=
  s.cfg = c ∧ s.inited = true ∧ s.ph = Vector.ofFn (phaseAfter c xs.length) ∧
    (1 ≤ s.cnt.toNat ∧ s.cnt.toNat ≤ blockLen c ∧ xs.length + s.cnt.toNat = (q + 1) * blockLen c) ∧
    s.acc = blockOf c (q * blockLen c) (xs.drop (q * blockLen c)) ∧ s.win = windowOf c xs q

theorem afterSamples_init (s : State) : AfterSamples s.cfg [] 0 (writeResetValues (startOperation s)) := by
  obtain ⟨hlow, -⟩ := blockLen_bounds s.cfg
  obtain ⟨-, -, hcfg, -⟩ := exec_keeps (exec_init s)
  have hcnt : (writeResetValues (startOperation s)).cnt.toNat = blockLen s.cfg := blockLenWord_toNat s.cfg
  refine ⟨hcfg, rfl, (phasesAfter_zero s.cfg).symm, ?_, ?_, (windowOf_no_closure s.cfg []).symm⟩
  · rw [hcnt, List.length_nil, Nat.zero_add, Nat.zero_add, Nat.one_mul]
    exact ⟨hlow, le_rfl, rfl⟩
  · rw [List.drop_nil, blockOf_nil]
    rfl

/-- A sample adds itself to the open block, or closes it where the countdown is at one (R125, R127). -/
theorem afterSamples_sample {c : Cfg} {xs : List F32} {q : Nat} {s : State} (x : F32) (h : AfterSamples c xs q s) :
    ∃ t : State, exec (.sample x) s = .next t ∧
      AfterSamples c (xs ++ [x]) (q + if s.cnt == 1#16 then 1 else 0) t := by
  obtain ⟨rfl, hinited, hph, ⟨hlow, hhigh, hcnt⟩, hacc, hwin⟩ := h
  refine ⟨_, exec_sample x s hinited, ?_⟩
  have hlength : (xs ++ [x]).length = xs.length + 1 := List.length_append
  have hclosed := closed_le hhigh hcnt
  have hblock : sampledBlock x s = blockOf s.cfg (q * blockLen s.cfg) ((xs ++ [x]).drop (q * blockLen s.cfg)) := by
    rw [List.drop_append_of_le_length hclosed, ← accumBlock_blockOf, List.length_drop, Nat.add_sub_cancel' hclosed,
      ← hacc, ← hph]
    rfl
  have hphase : advancedPhases s.cfg.inc s.ph = Vector.ofFn (phaseAfter s.cfg (xs ++ [x]).length) := by
    rw [hph, hlength, advancedPhases_phasesAfter]
  rw [← windowOf_append hclosed [x]] at hwin
  by_cases hone : s.cnt = 1#16
  · have hfull : (xs ++ [x]).length = (q + 1) * blockLen s.cfg := by
      rw [hone] at hcnt
      exact hlength.trans hcnt
    obtain ⟨hpos, -⟩ := blockLen_bounds s.cfg
    rw [sampleOp_closing x s (by rw [hone]; rfl), if_pos (beq_iff_eq.mpr hone), hblock, ← slotOf_newest hfull, hwin,
      pushBlock_windowOf]
    refine ⟨rfl, hinited, hphase, ?_, ?_, rfl⟩
    · rw [blockLenWord_toNat, hfull, Nat.add_one_mul (q + 1)]
      exact ⟨hpos, le_rfl, rfl⟩
    · rw [List.drop_of_length_le hfull.le, blockOf_nil]
  · have hopen : s.cnt - 1#16 ≠ 0#16 := fun h => hone (BitVec.eq_of_toNat_eq ((countdown_eq_zero s.cnt).mp h))
    obtain ⟨hleft, hsucc⟩ := countdown_open hlow hopen
    rw [sampleOp_open x s hopen, if_neg (by rwa [beq_iff_eq])]
    refine ⟨rfl, hinited, hphase, ⟨hleft, Nat.le_of_succ_le (hsucc.le.trans hhigh), ?_⟩, hblock, hwin⟩
    rw [hlength, Nat.add_assoc, Nat.add_comm 1, hsucc]
    exact hcnt

/-! ### Runs -/

theorem closures_next {i : Instr} {s t : State} (rest : List Instr) (h : exec i s = .next t) :
    closures (i :: rest) s = (if i.isSample && s.cnt == 1#16 then 1 else 0) + closures rest t := by
  simp only [closures, h]

/-- The run after `INIT`: the samples join those before, and each closure is counted. -/
theorem afterSamples_run {c : Cfg} (ops : List Instr) (hops : ∀ i ∈ ops, isSampleOrIdle i = true) (xs : List F32)
    (q : Nat) (s : State) (h : AfterSamples c xs q s) :
    ∃ t : State, runOps ops s = .next t ∧ AfterSamples c (xs ++ samplesOf ops) (q + closures ops s) t := by
  induction ops generalizing xs q s with
  | nil => exact ⟨s, rfl, (List.append_nil xs).symm ▸ h⟩
  | cons i rest ih =>
    obtain ⟨hi, hrest⟩ := List.forall_mem_cons.mp hops
    cases i
    case idle =>
      have hcount : closures (.idle :: rest) s = closures rest (startOperation s) :=
        (closures_next rest (exec_idle s)).trans (Nat.zero_add _)
      rw [runOps_next rest (exec_idle s), hcount]
      exact ih hrest xs q _ h
    case sample x =>
      obtain ⟨t, hexec, ht⟩ := afterSamples_sample x h
      obtain ⟨u, hrun, hu⟩ := ih hrest _ _ t ht
      rw [Nat.add_assoc, List.append_assoc] at hu
      exact ⟨u, (runOps_next rest hexec).trans hrun, closures_next rest hexec ▸ hu⟩
    all_goals cases hi

/-- Settles O52. -/
theorem stateAfterSamplesIsItsBlockSums : Obligations.StateAfterSamplesIsItsBlockSums := by
  intro ops s hops
  obtain ⟨t, hrun, hafter⟩ := afterSamples_run ops hops [] 0 _ (afterSamples_init s)
  rw [List.nil_append, Nat.zero_add] at hafter
  obtain ⟨-, -, hph, ⟨hlow, hhigh, hcnt⟩, hacc, hwin⟩ := hafter
  obtain ⟨hdiv, hmod⟩ := div_mod_of_countdown hlow hhigh hcnt
  have hclosures : closures (.init :: ops) s = closures ops (writeResetValues (startOperation s)) :=
    (closures_next ops (exec_init s)).trans (Nat.zero_add _)
  refine ⟨t, (runOps_next ops (exec_init s)).trans hrun, fun k => ?_, hmod, hclosures.trans hdiv.symm, ?_,
    fun b => ?_⟩
  · rw [hph, ofFn_lane, phaseAfter, BitVec.toNat_ofNat]
  · rw [hdiv]
    exact hacc
  · rw [slotAfter_eq, hdiv, hwin, windowOf_slot]

end Sys2Proof.Machine
end

section
/-! Silence from `INIT` on (property T1 of 95_test_vectors.md; R34, R123, R130, R151, R171): O56. The references are finite,
so a sample of `+0` leaves the zero block as it is, and a window of zero blocks has no primary peak. -/

namespace Sys2Proof.Machine

/-! ### The cosine table is finite -/

theorem getD_of_forall {α : Type} {p : α → Prop} {l : List α} {d : α} (hl : ∀ a ∈ l, p a) (hd : p d) (n : Nat) :
    p (l.getD n d) := by
  rw [List.getD_eq_getElem?_getD]
  cases h : l[n]? with
  | none => exact hd
  | some a => exact hl a (List.mem_of_getElem? h)

theorem cosRomPiece0_isFinite : (cosRomPiece0.all fun row => row.all isFinite) = true := by decide

theorem cosRomPiece1_isFinite : (cosRomPiece1.all fun row => row.all isFinite) = true := by decide

theorem cosRomPiece2_isFinite : (cosRomPiece2.all fun row => row.all isFinite) = true := by decide

theorem cosRomPiece3_isFinite : (cosRomPiece3.all fun row => row.all isFinite) = true := by decide

theorem cosRomPiece4_isFinite : (cosRomPiece4.all fun row => row.all isFinite) = true := by decide

theorem cosRomPiece5_isFinite : (cosRomPiece5.all fun row => row.all isFinite) = true := by decide

theorem cosRomPiece6_isFinite : (cosRomPiece6.all fun row => row.all isFinite) = true := by decide

theorem cosRomPiece7_isFinite : (cosRomPiece7.all fun row => row.all isFinite) = true := by decide

theorem cosRomRows_isFinite : (cosRomRows.all fun row => row.all isFinite) = true := by
  simp only [cosRomRows, List.all_append, cosRomPiece0_isFinite, cosRomPiece1_isFinite, cosRomPiece2_isFinite,
    cosRomPiece3_isFinite, cosRomPiece4_isFinite, cosRomPiece5_isFinite, cosRomPiece6_isFinite, cosRomPiece7_isFinite,
    Bool.and_self]

theorem cosRom_isFinite (idx : BitVec 10) : isFinite (cosRom idx) = true := by
  have hrows : ∀ row ∈ cosRomRows, ∀ w ∈ row, isFinite w = true := fun row hrow =>
    List.all_eq_true.mp (List.all_eq_true.mp cosRomRows_isFinite row hrow)
  have hrow := getD_of_forall hrows (d := []) (fun _ hw => nomatch hw) (idx.toNat / 8)
  exact getD_of_forall hrow (by decide) (idx.toNat % 8)

/-! ### Samples of zero -/

theorem fadd_posZero_posZero : fadd posZero posZero = posZero := by decide

theorem fmul_posZero_posZero : fmul posZero posZero = posZero := by decide

/-- A finite reference times `+0` is a zero, which a sum of `+0` absorbs. -/
theorem fadd_fmul_posZero {r : F32} (hr : isFinite r = true) : fadd posZero (fmul r posZero) = posZero := by
  rw [fmul_of_product_eq_zero hr (by decide) (Nat.mul_zero _)]
  split_ifs
  · exact fadd_posZero_posZero
  · decide

theorem sampledBlock_zero {s : State} (h : s.acc = Block.zero) : sampledBlock posZero s = Block.zero := by
  rw [sampledBlock, h, zero_eq_ofFn]
  simp only [accumBlock, accumulate, cosRefs, sinRefs, sinRef, cosRef, ofFn_lane, fmul_posZero_posZero,
    fadd_posZero_posZero, fadd_fmul_posZero (cosRom_isFinite _)]

/-! ### A window of zero blocks -/

theorem windowSum_zero {element : Block → F32} (h : element Block.zero = posZero) :
    windowSum element (Vector.replicate 4 Block.zero) = posZero := by
  have hslot := forall_zeroWindow (p := fun b => element b = posZero) h
  simp only [windowSum_eq, hslot, fadd_posZero_posZero]

theorem magnitudes_zero : magnitudes (Vector.replicate 4 Block.zero) = Vector.ofFn fun _ => posZero := by
  refine congrArg Vector.ofFn (funext fun k => ?_)
  rw [magnitude, windowSum_zero (zero_i k k.isLt), windowSum_zero (zero_q k k.isLt), fmul_posZero_posZero,
    fadd_posZero_posZero]

/-- No lane is above `+0`, so there is no primary peak (R151). -/
theorem primary_zeros : primary (Vector.ofFn fun _ => posZero) = none := by
  have hgt : fgt posZero posZero = false := by decide
  have hlane (k : Lane) : scanLane (Vector.ofFn fun _ => posZero) none (posZero, none) k = (posZero, none) :=
    if_neg (by rw [ofFn_lane, hgt]; exact fun h => Bool.false_ne_true h.2)
  simp only [primary, scanPeak, lanes, List.foldl_cons, List.foldl_nil, hlane]

theorem selectDecision_of_no_primary {m : Lanes F32} (totE : F32) (h : primary m = none) :
    selectDecision m totE = (.noSignal, .noPrimary) := by
  unfold selectDecision
  split
  case h_1 => rfl
  case h_2 i hi => exact absurd (h.symm.trans hi) (Option.some_ne_none i).symm

theorem closureDecision_zero (c : Cfg) : closureDecision c (Vector.replicate 4 Block.zero) = 0x000#10 := by
  rw [closureDecision, selectDecision_of_no_primary _ (magnitudes_zero ▸ primary_zeros)]
  rfl

/-! ### Runs of zeros -/

/-- Nothing but zeros has come since `INIT`. -/
def Silent (s : State) : Prop :=
  s.inited = true ∧ s.acc = Block.zero ∧ s.win = Vector.replicate 4 Block.zero ∧ s.last = 0x000#10

theorem silent_init (s : State) : Silent (writeResetValues (startOperation s)) := ⟨rfl, rfl, rfl, rfl⟩

/-- A sample of `+0` in silence, closing or not, leaves silence and emits nothing. -/
theorem sampleOp_silent {s : State} (h : Silent s) : Silent (sampleOp posZero s) ∧ (sampleOp posZero s).evt = none := by
  obtain ⟨hinited, hacc, hwin, hlast⟩ := h
  have hblock := sampledBlock_zero hacc
  by_cases hc : s.cnt - 1#16 = 0#16
  · have hpush : pushBlock (sampledBlock posZero s) s.win = Vector.replicate 4 Block.zero := by
      rw [hblock, hwin]
      rfl
    rw [sampleOp_closing posZero s hc, hpush, closureDecision_zero, hlast]
    exact ⟨⟨hinited, rfl, rfl, rfl⟩, rfl⟩
  · rw [sampleOp_open posZero s hc]
    exact ⟨⟨hinited, hblock, hwin, hlast⟩, rfl⟩

theorem eventTrace_silent (n : Nat) {i : Instr} {s t : State} (rest : List Instr) (h : exec i s = .next t)
    (hevt : t.evt = none) : eventTrace n (i :: rest) s = eventTrace (n + 1) rest t := by
  simp only [eventTrace, h, hevt, Option.toList_none, List.map_nil, List.nil_append]

theorem run_zeros (n : Nat) (index : Nat) {s : State} (h : Silent s) :
    ∃ t : State, runOps (zeros n) s = .next t ∧ Silent t ∧ eventTrace index (zeros n) s = [] := by
  induction n generalizing index s with
  | zero => exact ⟨s, rfl, h, rfl⟩
  | succ n ih =>
    have hexec : exec (.sample posZero) s = .next (sampleOp posZero s) := exec_sample posZero s h.1
    obtain ⟨hsilent, hevt⟩ := sampleOp_silent h
    obtain ⟨t, hrun, ht, htrace⟩ := ih (index + 1) hsilent
    rw [zeros, List.replicate_succ, runOps_next _ hexec, eventTrace_silent index _ hexec hevt]
    exact ⟨t, hrun, ht, htrace⟩

/-- Settles O56. -/
theorem silenceIsNeverReported : Obligations.SilenceIsNeverReported := by
  intro n s
  obtain ⟨t, hrun, ⟨-, hacc, -, hlast⟩, htrace⟩ := run_zeros n 2 (silent_init s)
  exact ⟨t, (runOps_next _ (exec_init s)).trans hrun, hlast, (eventTrace_silent 1 _ (exec_init s) rfl).trans htrace, hacc⟩

end Sys2Proof.Machine
end

section
/-! Two equivalences of the operations (R57, R186): repeating `INIT` or `IDLE` (O11), and having the diagnostic record or not
(O28). -/

namespace Sys2Proof.Machine

/-! ### Repeating an operation -/

theorem startOperation_startOperation (s : State) : startOperation (startOperation s) = startOperation s := rfl

/-- `INIT` writes the values of R34 whatever stood there, so a second one finds them. -/
theorem writeResetValues_startOperation_idem (s : State) :
    writeResetValues (startOperation (writeResetValues (startOperation s))) = writeResetValues (startOperation s) := by
  simp only [startOperation_eq, writeResetValues_eq]

/-- Settles O11. -/
theorem initAndIdleAreIdempotent : Obligations.InitAndIdleAreIdempotent := by
  rintro i s t (rfl | rfl) h
  · cases h
    exact (exec_init _).trans (congrArg _ (writeResetValues_startOperation_idem s))
  · cases h
    exact (exec_idle _).trans (congrArg _ (startOperation_startOperation s))

/-! ### The diagnostic record -/

/-- The same instance with or without the diagnostic record, its diagnostic port showing `dr` (R27, R191). -/
def State.withDiag (present : Bool) (dr : Option DiagRecord) (s : State) : State :=
  { s with cfg := { s.cfg with diag := present }, dr := dr }

/-- The parameters computed from the configuration do not depend on the record (R6, R8). -/
theorem scaledEnergy_diag (c : Cfg) (present : Bool) (win : Vector Block 4) :
    scaledEnergy { c with diag := present } win = scaledEnergy c win := by
  simp only [scaledEnergy, cScale, blockLen]

theorem closureDecision_diag (c : Cfg) (present : Bool) (win : Vector Block 4) :
    closureDecision { c with diag := present } win = closureDecision c win := by
  simp only [closureDecision, scaledEnergy_diag]

theorem aggregateOp_withDiag (present : Bool) (dr : Option DiagRecord) (s : State) :
    aggregateOp (s.withDiag present dr) = (aggregateOp s).withDiag present dr := by
  simp only [aggregateOp_eq, State.withDiag, scaledEnergy_diag]

theorem sampleOp_withDiag (x : F32) (present : Bool) (dr : Option DiagRecord) (s : State) :
    ∃ dr' : Option DiagRecord, sampleOp x (s.withDiag present dr) = (sampleOp x s).withDiag present dr' := by
  by_cases hc : s.cnt - 1#16 = 0#16
  · rw [sampleOp_closing x s hc, sampleOp_closing x (s.withDiag present dr) hc]
    simp only [State.withDiag, closureDecision_diag]
    exact ⟨_, rfl⟩
  · rw [sampleOp_open x s hc, sampleOp_open x (s.withDiag present dr) hc]
    exact ⟨none, rfl⟩

/-- With or without the record an instruction answers the same, but for the diagnostic port (R57). -/
theorem exec_withDiag {i : Instr} {s t : State} (present : Bool) (dr : Option DiagRecord) (h : exec i s = .next t) :
    ∃ dr' : Option DiagRecord, exec i (s.withDiag present dr) = .next (t.withDiag present dr') := by
  cases i
  case sample x =>
    obtain ⟨hinited, rfl⟩ := exec_sample_next h
    obtain ⟨dr', hsample⟩ := sampleOp_withDiag x present dr s
    exact ⟨dr', hsample ▸ exec_sample x (s.withDiag present dr) hinited⟩
  case aggregate =>
    cases h
    exact ⟨dr, congrArg Host.Outcome.next (aggregateOp_withDiag present dr s)⟩
  all_goals
    cases h
    exact ⟨_, rfl⟩

/-- Settles O28. -/
theorem diagnosticRecordChangesNothing : Obligations.DiagnosticRecordChangesNothing := by
  intro i s t u present hs hu
  obtain ⟨dr', hexec⟩ := exec_withDiag present s.dr hs
  obtain rfl : t.withDiag present dr' = u := Host.Outcome.next.inj (hexec.symm.trans hu)
  exact ⟨⟨rfl, rfl, rfl, rfl, rfl, rfl, rfl⟩, rfl, rfl⟩

end Sys2Proof.Machine
end

section
/-! The reporter (R170 to R176): O26, O35, O37 and O38. All of them are about `eventOf`: a SAMPLE at a closure drives the
event port with `eventOf` of `last` before and after, and any other SAMPLE leaves the port idle and `last` as it was. -/

namespace Sys2Proof.Machine

/-! ### The words of a Pair -/

theorem isPair_iff (d : DecWord) : isPair d = true ↔ d.extractLsb' 8 2 = 2#2 := beq_iff_eq

/-- A Pair is its event word under the kind `10` (R75, R76). -/
theorem toNat_of_isPair {d : DecWord} (h : isPair d = true) : d.toNat = 0x200 + (eventWord d).toNat := by
  have hkind := congrArg BitVec.toNat ((isPair_iff d).mp h)
  simp only [BitVec.extractLsb'_toNat, BitVec.toNat_ofNat, Nat.shiftRight_eq_div_pow] at hkind
  simp only [eventWord, BitVec.extractLsb'_toNat, Nat.shiftRight_zero]
  omega

theorem eventOf_of_not_isPair {d : DecWord} (previous : DecWord) (h : isPair d = false) : eventOf previous d = none :=
  eventOf_eq_none.mpr fun hpair => absurd (h.symm.trans hpair) Bool.false_ne_true

theorem eventOf_of_new_pair {previous d : DecWord} (hpair : isPair d = true) (hnew : d ≠ previous) :
    eventOf previous d = some (eventWord d) := eventOf_eq_some.mpr ⟨hpair, hnew, rfl⟩

theorem eventOf_self (d : DecWord) : eventOf d d = none := eventOf_eq_none.mpr fun _ => rfl

theorem ne_of_isPair {d e : DecWord} (hd : isPair d = true) (he : isPair e = false) : d ≠ e := by
  rintro rfl
  exact Bool.false_ne_true (he.symm.trans hd)

theorem isPair_noSignal : isPair 0x000#10 = false := by decide

theorem isPair_ambiguous : isPair 0x100#10 = false := by decide

/-- After a decision that is no Pair, silence means that again there is none. -/
theorem isPair_eq_false_of_no_event {previous d : DecWord} (hprevious : isPair previous = false)
    (hevt : eventOf previous d = none) : isPair d = false :=
  Bool.eq_false_iff.mpr fun hpair => ne_of_isPair hpair hprevious (eventOf_eq_none.mp hevt hpair)

/-! ### What a SAMPLE leaves on the event port -/

theorem countdown_eq_zero_iff_one (n : BitVec 16) : n - 1#16 = 0#16 ↔ n = 1#16 := by
  rw [countdown_eq_zero, BitVec.toNat_eq]
  rfl

theorem exec_sample_at_closure {x : F32} {s t : State} (h : exec (.sample x) s = .next t) (hcnt : s.cnt = 1#16) :
    t.evt = eventOf s.last t.last ∧ t.cnt = blockLenWord t.cfg ∧ t.acc = Block.zero := by
  obtain ⟨-, rfl⟩ := exec_sample_next h
  rw [sampleOp_closing x s ((countdown_eq_zero_iff_one s.cnt).mpr hcnt)]
  exact ⟨rfl, rfl, rfl⟩

theorem exec_sample_between_closures {x : F32} {s t : State} (h : exec (.sample x) s = .next t) (hcnt : s.cnt ≠ 1#16) :
    t.last = s.last ∧ t.evt = none := by
  obtain ⟨-, rfl⟩ := exec_sample_next h
  rw [sampleOp_open x s (mt (countdown_eq_zero_iff_one s.cnt).mp hcnt)]
  exact ⟨rfl, rfl⟩

/-- Settles O26: `INIT`, `IDLE` and a SAMPLE that goes on leave the port idle, so a word on it is that of `eventOf` at a
closure. -/
theorem eventsComeOnlyFromClosures : Obligations.EventsComeOnlyFromClosures := by
  intro i s t w hi h hw
  obtain rfl | rfl | ⟨x, rfl⟩ := hostSelectable_cases hi
  · cases h
    cases hw
  · cases h
    cases hw
  · by_cases hcnt : s.cnt = 1#16
    · obtain ⟨hevt, hreload, hacc⟩ := exec_sample_at_closure h hcnt
      obtain ⟨hpair, hnew, rfl⟩ := eventOf_eq_some.mp (hevt.symm.trans hw)
      exact ⟨⟨x, rfl⟩, hcnt, hpair, hnew, toNat_of_isPair hpair, hreload ▸ blockLenWord_toNat t.cfg, hacc⟩
    · obtain ⟨-, hevt⟩ := exec_sample_between_closures h hcnt
      cases hevt.symm.trans hw

/-! ### REPORT -/

theorem exec_report (s : State) : exec .report s = .next (reportOp s) := rfl

/-- Settles O35. -/
theorem reportEmitsExactlyTheNewPairs : Obligations.ReportEmitsExactlyTheNewPairs := by
  refine ⟨rfl, rfl, fun x s t => exec_sample_between_closures, fun s => ⟨_, exec_report s, ?_, ?_, rfl, rfl⟩⟩
  · rintro ⟨hkind, hnew⟩
    exact eventOf_of_new_pair ((isPair_iff _).mpr hkind) hnew
  · intro hold
    exact eventOf_eq_none.mpr fun hpair => of_not_not fun hnew => hold ⟨(isPair_iff _).mp hpair, hnew⟩

/-- The state after `REPORT` of the decision `d` (R170, R173). -/
def afterReport (d : DecWord) (s : State) : State := reportOp (s.setTr { s.tr with dec := d })

@[simp] theorem afterReport_last (d : DecWord) (s : State) : (afterReport d s).last = d := rfl

theorem reportSequence_nil (s : State) : reportSequence [] s = [] := rfl

theorem reportSequence_cons (d : DecWord) (ds : List DecWord) (s : State) :
    reportSequence (d :: ds) s = (eventOf s.last d).toList ++ reportSequence ds (afterReport d s) := rfl

theorem reportSequence_new_pair {d : DecWord} {s : State} (ds : List DecWord) (hpair : isPair d = true)
    (hnew : d ≠ s.last) : reportSequence (d :: ds) s = eventWord d :: reportSequence ds (afterReport d s) := by
  rw [reportSequence_cons, eventOf_of_new_pair hpair hnew]
  rfl

theorem reportSequence_silent {d : DecWord} {s : State} (ds : List DecWord) (h : eventOf s.last d = none) :
    reportSequence (d :: ds) s = reportSequence ds (afterReport d s) := by
  rw [reportSequence_cons, h]
  rfl

/-- Repeats of the decision in `last` emit nothing. -/
theorem reportSequence_replicate_last (n : Nat) {d : DecWord} {s : State} (h : s.last = d) :
    reportSequence (List.replicate n d) s = [] := by
  induction n generalizing s with
  | zero => rfl
  | succ n ih =>
    have hsilent : eventOf s.last d = none := h ▸ eventOf_self d
    rw [List.replicate_succ, reportSequence_silent _ hsilent]
    exact ih (afterReport_last d s)

/-! ### The decisions as the reporter tells them apart -/

/-- The reporter tells Pairs from each other and from the rest, and not the rest from each other (R171, R175). -/
def SamePair (d e : DecWord) : Prop := d = e ∨ (isPair d = false ∧ isPair e = false)

theorem eventOf_congr {previous previous' d e : DecWord} (hprevious : SamePair previous previous') (h : SamePair d e) :
    eventOf previous d = eventOf previous' e := by
  obtain rfl | ⟨hd, he⟩ := h
  · obtain rfl | ⟨hold, hold'⟩ := hprevious
    · rfl
    · cases hpair : isPair d with
      | false => rw [eventOf_of_not_isPair _ hpair, eventOf_of_not_isPair _ hpair]
      | true =>
        rw [eventOf_of_new_pair hpair (ne_of_isPair hpair hold), eventOf_of_new_pair hpair (ne_of_isPair hpair hold')]
  · rw [eventOf_of_not_isPair _ hd, eventOf_of_not_isPair _ he]

theorem reportSequence_congr {ds es : List DecWord} (h : List.Forall₂ SamePair ds es) {s t : State}
    (hlast : SamePair s.last t.last) : reportSequence ds s = reportSequence es t := by
  induction h generalizing s t with
  | nil => rfl
  | cons hhead _ ih =>
    have htail := ih (s := afterReport _ s) (t := afterReport _ t) hhead
    rw [reportSequence_cons, reportSequence_cons, eventOf_congr hlast hhead, htail]

theorem samePair_noSignal_for_ambiguous (d : DecWord) : SamePair (if d = 0x100#10 then 0x000#10 else d) d := by
  split_ifs with h
  · exact .inr ⟨isPair_noSignal, h ▸ isPair_ambiguous⟩
  · exact .inl rfl

/-- Settles O37. -/
theorem repeatsAreSuppressedAndReemitted : Obligations.RepeatsAreSuppressedAndReemitted := by
  refine fun s => ⟨fun d n hpair hnew => ?_, fun d between hpair hnew hbetween => ?_, fun ds => ?_⟩
  · rw [List.replicate_succ, reportSequence_new_pair _ hpair hnew, reportSequence_replicate_last n (afterReport_last d s)]
  · have hagain : d ≠ (afterReport between (afterReport d s)).last := by
      rw [afterReport_last]
      exact ne_of_isPair hpair hbetween
    rw [reportSequence_new_pair _ hpair hnew, reportSequence_silent _ (eventOf_of_not_isPair _ hbetween),
      reportSequence_new_pair _ hpair hagain, reportSequence_nil]
  · have hsame : List.Forall₂ SamePair (ds.map fun d => if d = 0x100#10 then 0x000#10 else d) ds :=
      List.forall₂_map_left_iff.mpr (List.forall₂_same.mpr fun d _ => samePair_noSignal_for_ambiguous d)
    exact reportSequence_congr hsame (.inl rfl)

/-! ### Runs without an event -/

/-- A Pair comes into `last` only with its event: this holds of every instruction, micro-operations included. -/
theorem exec_keeps_no_pair {i : Instr} {s t : State} (hlast : isPair s.last = false) (h : exec i s = .next t)
    (hevt : t.evt = none) : isPair t.last = false := by
  cases i
  case sample x =>
    by_cases hcnt : s.cnt = 1#16
    · obtain ⟨hword, -⟩ := exec_sample_at_closure h hcnt
      exact isPair_eq_false_of_no_event hlast (hword.symm.trans hevt)
    · obtain ⟨hsame, -⟩ := exec_sample_between_closures h hcnt
      rwa [hsame]
  case report =>
    cases h
    exact isPair_eq_false_of_no_event hlast hevt
  case init =>
    cases h
    exact isPair_noSignal
  all_goals
    cases h
    exact hlast

theorem eventTrace_next (n : Nat) {i : Instr} {s t : State} (rest : List Instr) (h : exec i s = .next t) :
    eventTrace n (i :: rest) s = t.evt.toList.map (fun w => (n, w)) ++ eventTrace (n + 1) rest t := by
  simp only [eventTrace, h]

/-- A run without an event brings no Pair into `last`. -/
theorem run_keeps_no_pair (n : Nat) {ops : List Instr} {s t : State} (hlast : isPair s.last = false)
    (hrun : runOps ops s = .next t) (htrace : eventTrace n ops s = []) : isPair t.last = false := by
  induction ops generalizing n s with
  | nil =>
    cases hrun
    exact hlast
  | cons i rest ih =>
    cases h : exec i s with
    | next u =>
      rw [runOps_next rest h] at hrun
      rw [eventTrace_next n rest h, List.append_eq_nil_iff, List.map_eq_nil_iff, Option.toList_eq_nil_iff] at htrace
      obtain ⟨hevt, hothers⟩ := htrace
      exact ih (n + 1) (exec_keeps_no_pair hlast h hevt) hrun hothers
    | fault r => cases r
    | refused r => cases (runOps_refused rest h).symm.trans hrun

/-- Settles O38: `INIT` leaves no Pair in `last`, and neither does the run after it, whatever its operations; so a Pair that
the SAMPLE brings is a new one. -/
theorem firstPairAfterInitEmits : Obligations.FirstPairAfterInitEmits := by
  intro ops x s t u _ hrun hevents h hpair
  rw [runOps_next ops (exec_init s)] at hrun
  rw [eventWords, List.map_eq_nil_iff, eventTrace_silent 1 ops (exec_init s) rfl] at hevents
  have hinit : isPair (writeResetValues (startOperation s)).last = false := isPair_noSignal
  have hlast : isPair t.last = false := run_keeps_no_pair 2 hinit hrun hevents
  by_cases hcnt : t.cnt = 1#16
  · obtain ⟨hevt, -⟩ := exec_sample_at_closure h hcnt
    exact hevt.trans (eventOf_of_new_pair hpair (ne_of_isPair hpair hlast))
  · obtain ⟨hsame, -⟩ := exec_sample_between_closures h hcnt
    cases hlast.symm.trans (hsame ▸ hpair)

end Sys2Proof.Machine
end

section
/-! Completion (R200): O47. `SAMPLE` is the one instruction with a refusal, before the first `INIT`. -/

namespace Sys2Proof.Machine

/-- No instruction but `SAMPLE` has a refusal (R200). -/
theorem exec_answers_of_not_sample {i : Instr} (s : State) (hi : ∀ x : F32, i ≠ .sample x) :
    ∃ t : State, exec i s = .next t := by
  cases i
  case sample x => exact absurd rfl (hi x)
  all_goals exact ⟨_, rfl⟩

/-- After `INIT` nothing is refused, `SAMPLE` of any operand included (R200, R231). -/
theorem exec_answers_of_inited (i : Instr) {s : State} (h : s.inited = true) : ∃ t : State, exec i s = .next t := by
  by_cases hi : ∃ x : F32, i = .sample x
  · obtain ⟨x, rfl⟩ := hi
    exact ⟨sampleOp x s, exec_sample x s h⟩
  · exact exec_answers_of_not_sample s (not_exists.mp hi)

/-- Settles O47: the answers above, and `exec_keeps` for `inited`. -/
theorem everyOperationCompletes : Obligations.EveryOperationCompletes := by
  intro i s
  refine ⟨fun h => ?_, exec_answers_of_not_sample s⟩
  obtain ⟨t, ht⟩ := exec_answers_of_inited i h
  obtain ⟨-, -, -, hinited⟩ := exec_keeps ht
  exact ⟨t, ht, hinited h⟩

end Sys2Proof.Machine
end

section
/-! The outcomes of `SELECT` in the order of R207: O32. The equations of `selectDecision` without a secondary peak and
with both peaks stand here; that without a primary peak is `selectDecision_of_no_primary`. -/

namespace Sys2Proof.Machine

/-! ### The decision on the peaks -/

theorem selectDecision_of_no_secondary {m : Lanes F32} {i : Lane} (totE : F32) (hi : primary m = some i)
    (hj : secondary m i = none) : selectDecision m totE = (.noSignal, .noSecondary) := by
  unfold selectDecision
  rw [hi]
  dsimp only
  rw [hj]

/-- With both peaks, steps 3 and 4 decide, in this order (R153, R154, R207). -/
theorem selectDecision_of_peaks {m : Lanes F32} {i j : Lane} (totE : F32) (hi : primary m = some i)
    (hj : secondary m i = some j) :
    selectDecision m totE =
      if thirdPeak m i j then (.ambiguous, .thirdPeak)
      else if belowFloor m i j totE then (.noSignal, .signalFloor)
      else (normalisedPair i j, .pair) := by
  unfold selectDecision
  rw [hi]
  dsimp only
  rw [hj]

/-! ### The tests and the word of a Pair -/

/-- The dominance check finds a third lane above the threshold (R153). -/
theorem thirdPeak_iff (m : Lanes F32) (i j : Lane) :
    thirdPeak m i j = true ↔ ∃ k : Lane, k ≠ i ∧ k ≠ j ∧ fgt m[k] (fmul m[j] cFloor) = true := by
  have hmem : ∀ k : Lane, k ∈ lanes := by decide
  simp [thirdPeak, hmem, and_assoc]

/-- The dominance check finds no third lane above the threshold (R153). -/
theorem not_thirdPeak_iff (m : Lanes F32) (i j : Lane) :
    ¬thirdPeak m i j = true ↔ ∀ k : Lane, k ≠ i → k ≠ j → fgt m[k] (fmul m[j] cFloor) = false := by
  rw [thirdPeak_iff]
  simp only [not_exists, not_and, Bool.not_eq_true]

/-- Both indices fit their fields of the word (R75, R155), so the sum does not wrap around. -/
theorem decWord_normalisedPair_toNat (i j : Lane) :
    (decWord (normalisedPair i j)).toNat = 0x200 + 16 * min i.val j.val + max i.val j.val := by
  have hfits : 0x200 + 16 * min i.val j.val + max i.val j.val < 2 ^ 10 := by omega
  rw [normalisedPair, decWord, BitVec.toNat_ofNat, Fin.coe_min, Fin.coe_max, Nat.mod_eq_of_lt hfits]

/-! ### The micro-step -/

theorem exec_select (s : State) : exec .select s = .next (selectOp s) := rfl

theorem selectOp_dec_reason {s : State} {d : Decision} {r : Reason} (h : selectDecision s.tr.m s.tr.totE = (d, r)) :
    (selectOp s).tr.dec = decWord d ∧ (selectOp s).tr.reason = r := by
  rw [selectOp_eq, h]
  exact ⟨rfl, rfl⟩

/-- Settles O32, outcome by outcome. -/
theorem selectTakesTheFirstOutcomeThatApplies : Obligations.SelectTakesTheFirstOutcomeThatApplies := by
  refine ⟨rfl, rfl, fun s => ⟨selectOp s, exec_select s, ?_, ?_, ?_, rfl⟩⟩
  · exact fun hi => selectOp_dec_reason (selectDecision_of_no_primary _ hi)
  · exact fun i hi hj => selectOp_dec_reason (selectDecision_of_no_secondary _ hi hj)
  · intro i j hi hj
    have hpeaks := selectDecision_of_peaks s.tr.totE hi hj
    refine ⟨fun hlane => ?_, fun hlanes => ?_⟩
    · have hthird := (thirdPeak_iff s.tr.m i j).mpr hlane
      exact selectOp_dec_reason (hpeaks.trans (if_pos hthird))
    · have hthird := (not_thirdPeak_iff s.tr.m i j).mpr hlanes
      rw [if_neg hthird] at hpeaks
      refine ⟨fun hfloor => ?_, fun hfloor => ?_⟩
      · exact selectOp_dec_reason (hpeaks.trans (if_pos hfloor))
      · have habove : ¬belowFloor s.tr.m i j s.tr.totE = true := Bool.eq_false_iff.mp hfloor
        obtain ⟨hdec, hreason⟩ := selectOp_dec_reason (hpeaks.trans (if_neg habove))
        exact ⟨hdec ▸ decWord_normalisedPair_toNat i j, hreason⟩

end Sys2Proof.Machine
end
